-- ==== Sys2Proof/Word.lean ====
section
/-! DEFINITION. The word types of the block: 8-bit channel bytes, 16-bit CRC and length values, 32-bit host
registers and 12-bit window offsets (00_scope.md R5, R7; 20_memory.md R22). -/
namespace Sys2Proof

/-- A channel or buffer byte (R5: "Bytes are 8 bits"). -/
abbrev Byte := BitVec 8

/-- A CRC register, a payload length or a timer value (R5, R14, R16). -/
abbrev Half := BitVec 16

/-- A host register or bus data word (R5: "Host registers are 32 bits"). -/
abbrev Word := BitVec 32

/-- A byte offset in the host register window, 0x000..0xFFF (R22). -/
abbrev Offset := BitVec 12

end Sys2Proof
end

