-- ==== Sys2Proof/Config.lean ====
section
/-! DEFINITION. The implementation parameters of R5, as plain data that State carries unchanged (log 2), and the
free values: the buffer bytes that nothing has written since reset (93_implementation_defined.md U1, log 3). -/
namespace Sys2Proof

/-- `CRC_PROFILE`, the five CRC parameters of R2. -/
structure CrcProfile where
  /-- `CRC_POLY`, x^16 implicit -/
  poly   : Half
  /-- `CRC_INIT` -/
  init   : Half
  /-- `CRC_REFIN` -/
  refIn  : Bool
  /-- `CRC_REFOUT` -/
  refOut : Bool
  /-- `CRC_XOROUT` -/
  xorOut : Half
  deriving DecidableEq, Repr

/-- The parameters of one instance (R5). `MAX_PAYLOAD` is at most 256: "The buffers stay 256 bytes" (D25), and R23
describes only values up to that. `N_ENDPOINTS` and `BASE` are those of Machine/Platform.lean. -/
structure Config where
  /-- `START_BYTE` -/
  startByte  : Byte
  /-- `MAX_PAYLOAD`, 0..256 -/
  maxPayload : Fin 257
  /-- `CRC_PROFILE` -/
  crc        : CrcProfile
  /-- `T_HDR_MS` -/
  tHdrMs     : Nat
  /-- `T_PAY_MS` -/
  tPayMs     : Nat
  /-- `TICK_HZ` -/
  tickHz     : Nat
  deriving DecidableEq, Repr

/-- FREE VALUE (U1): what byte `index` of `rx_buf` holds after block reset number `draw`, until it is written. -/
opaque Config.unspecifiedRxByte (draw index : Nat) : Byte

/-- FREE VALUE (U1): what byte `index` of `tx_buf` holds after block reset number `draw`, until it is written. -/
opaque Config.unspecifiedTxByte (draw index : Nat) : Byte

end Sys2Proof
end

