-- ==== Sys2Proof/Machine/Types.lean ====
section
/-! DEFINITION. The names the spec gives to states, results, causes and widths, and the units of work the outside world
hands to the block: bus accesses, encoded operations and stimuli. -/
namespace Sys2Proof

/-- The seven states of the receive FSM (10_state.md R14, codes in R41). The reserved code is no state (U5, log 15). -/
inductive RxState where
  | waitStart | seq | lenLo | lenHi | payload | crcLo | crcHi
  deriving DecidableEq, Repr

/-- Receive results (30_encoding.md R42, 60_exceptions.md R92). -/
inductive RxResult where
  | none | frame | timeout | checksumError | overflowError | channelError
  deriving DecidableEq, Repr

/-- The health side-channel output (R43, R98). -/
inductive Health where
  | unknown | ok | fail
  deriving DecidableEq, Repr

/-- Causes of a command rejection (R44, R93). -/
inductive CmdCause where
  | none | reservedOp | rxBusy | txBusy | txLength
  deriving DecidableEq, Repr

/-- The two widths in which a buffer may be accessed (R26 (b)). -/
inductive BufWidth where
  /-- 8 bits -/
  | byte
  /-- 32 bits, at an offset that is a multiple of 4 -/
  | word
  deriving DecidableEq, Repr

/-- One host bus access, admitted or not: `MemRead` or `MemWrite` of R8, its width in bits. -/
inductive BusAccess where
  | read (width : Nat) (addr : Offset)
  | write (width : Nat) (addr : Offset) (data : Word)
  deriving DecidableEq, Repr

/-- The environment's events that have a row of the opcode table and no encoding (R72, R74, R75, R80). -/
inductive EnvEvent where
  | tick | timeout | channelResetRx | channelResetTx
  deriving DecidableEq, Repr

/-- An operation as the block receives it, before decoding: a command word (R37), a channel byte (R49), the emission of a
wire byte (R79), a bus access (R26), or an event without encoding. -/
inductive Encoded where
  | commandWord (w : Word)
  | wireIn (b : Byte)
  | wireOut
  | access (a : BusAccess)
  | event (e : EnvEvent)
  deriving DecidableEq, Repr

/-- Why a unit of bytes is no encoding of the opcode table (log 10). -/
inductive DecodeError where
  /-- the table has no row of this many bytes -/
  | noSuchLength (bytes : Nat)
  /-- a window offset has 12 bits (R22) -/
  | offsetTooWide (w : Nat)
  deriving DecidableEq, Repr

/-- What the outside world does next, one atomic step each (R11, log 1). -/
inductive Stimulus where
  /-- the host writes this word to CMD: a command mnemonic of R50 (log 14) -/
  | command (w : Word)
  /-- the host's bus access: `wr`, `wrb`, `rd`, `rdb` of R50, or an access that R26 does not admit -/
  | bus (a : BusAccess)
  /-- the RX engine is chosen to step (R62) -/
  | rxStep
  /-- the environment is ready to accept a byte and the TX engine is chosen to step (R79) -/
  | txReady
  /-- one timer tick (R72) -/
  | tick
  /-- the abstract timeout of an untimed model (R74) -/
  | timeout
  /-- channel reset, both sides in one step (R75, R80) -/
  | channelReset
  /-- bytes arrive on the incoming channel (R12), any number in one step (log 19) -/
  | rxArrive (bytes : List Byte)
  /-- block reset is asserted and released (R108) -/
  | blockReset
  deriving DecidableEq, Repr

end Sys2Proof
end

