-- ==== Sys2Proof/Machine/Operands.lean ====
section
/-! DEFINITION. Every operand form of the spec: fields of the command word (R37) and of TX_CFG (R40), byte lanes of a
bus word (R25), the two halves of a 16-bit wire field (R24, R47), the window's offsets (R23), and which accesses are admitted
(R26). -/
namespace Sys2Proof

/-- OP, bits [3:0] of a command word (R37). -/
def commandOp (w : Word) : BitVec 4 := w.extractLsb' 0 4

/-- DATA, bits [15:8] of a command word (R37). -/
def commandData (w : Word) : Byte := w.extractLsb' 8 8

/-- TX_SEQ, bits [7:0] of TX_CFG (R40). -/
def txCfgSeq (v : Word) : Byte := v.extractLsb' 0 8

/-- TX_LEN, bits [31:16] of TX_CFG (R40). -/
def txCfgLen (v : Word) : Half := v.extractLsb' 16 16

/-- Byte lane `k` of a bus word, bits [8k+7 : 8k] (R25). -/
def byteLane (v : Word) (k : Nat) : Byte := v.extractLsb' (8 * k) 8

/-- The bus word whose lanes 0 to 3 are the four bytes, little-endian (R25, R90). -/
def wordOfLanes (b0 b1 b2 b3 : Byte) : Word := b3 ++ b2 ++ b1 ++ b0

/-- Bits [7:0] of a 16-bit field, the byte the wire carries first (R24). -/
def lowByte (h : Half) : Byte := h.extractLsb' 0 8

/-- Bits [15:8] of a 16-bit field, the byte the wire carries second (R24). -/
def highByte (h : Half) : Byte := h.extractLsb' 8 8

/-- `h` with bits [7:0] replaced (R66, R69). -/
def setLowByte (h : Half) (b : Byte) : Half := highByte h ++ b

/-- `h` with bits [15:8] replaced (R67, R70). -/
def setHighByte (h : Half) (b : Byte) : Half := b ++ lowByte h

/-- The window offsets of R23. -/
def offCmd : Offset := 0x000
def offStatus : Offset := 0x004
def offRxInfo : Offset := 0x008
def offRxCrc : Offset := 0x00C
def offRxCount : Offset := 0x010
def offTxCfg : Offset := 0x014
def offCrcValue : Offset := 0x018

/-- RX_BUF byte `i` is at 0x100 + i (R40). -/
def offRxBuf (i : Byte) : Offset := 0x1#4 ++ i

/-- TX_BUF byte `i` is at 0x200 + i (R40). -/
def offTxBuf (i : Byte) : Offset := 0x2#4 ++ i

/-- The buffer index of a buffer offset, `offset - 0x100` or `offset - 0x200` (R23). -/
def bufIndex (a : Offset) : Byte := a.extractLsb' 0 8

/-- The number of the aligned word that holds a buffer offset, bits [7:2]. -/
def bufWordIndex (a : Offset) : BitVec 6 := a.extractLsb' 2 6

/-- The byte index of an aligned buffer word's first byte, `addr[7:2]*4`. -/
def wordByteIndex (k : BitVec 6) : Byte := k ++ 0#2

/-- An offset that a 32-bit access reaches: `addr mod 4 = 0` (R26). -/
def aligned (a : Offset) : Bool := a.toNat % 4 == 0

/-- The reserved offsets of R23: 0x01C..0x0FF and 0x300..0xFFF. -/
def reservedOffset (a : Offset) : Bool :=
  (0x01C ≤ a.toNat && a.toNat < 0x100) || 0x300 ≤ a.toNat

def BusAccess.width : BusAccess → Nat
  | .read w _ => w
  | .write w _ _ => w

def BusAccess.addr : BusAccess → Offset
  | .read _ a => a
  | .write _ a _ => a

/-- The accesses R26 admits: (b) 8 bits in a buffer, at any offset; (a), (b), (c) 32 bits with `addr mod 4 = 0`. -/
def BusAccess.admitted (a : BusAccess) : Bool :=
  if a.width = 8 then 0x100 ≤ a.addr.toNat && a.addr.toNat < 0x300
  else if a.width = 32 then aligned a.addr
  else false

/-- A buffer width in bits. -/
def BufWidth.bits : BufWidth → Nat
  | .byte => 8
  | .word => 32

/-- The buffer width of an admitted access. -/
def BufWidth.ofBits (w : Nat) : BufWidth := if w = 8 then .byte else .word

end Sys2Proof
end

