-- ==== Sys2Proof/Machine/Params.lean ====
section
/-! DEFINITION. The CRC profiles the spec names (R2, R54), the default parameters (R5) and the timer reload values (R6). -/
namespace Sys2Proof

/-- CRC-16/CCITT-FALSE, the default profile (R2). -/
def CrcProfile.ccittFalse : CrcProfile :=
  { poly := 0x1021, init := 0xFFFF, refIn := false, refOut := false, xorOut := 0x0000 }

/-- XMODEM (R54). -/
def CrcProfile.xmodem : CrcProfile :=
  { poly := 0x1021, init := 0x0000, refIn := false, refOut := false, xorOut := 0x0000 }

/-- KERMIT (R54). -/
def CrcProfile.kermit : CrcProfile :=
  { poly := 0x1021, init := 0x0000, refIn := true, refOut := true, xorOut := 0x0000 }

/-- X-25 (R54). -/
def CrcProfile.x25 : CrcProfile :=
  { poly := 0x1021, init := 0xFFFF, refIn := true, refOut := true, xorOut := 0xFFFF }

/-- The defaults of R5. -/
def Config.default : Config :=
  { startByte := 0xAE, maxPayload := 256, crc := CrcProfile.ccittFalse, tHdrMs := 100, tPayMs := 500, tickHz := 1000 }

/-- A timeout in ticks: rounded down, and at least 1 (R6, log 6). -/
def Config.ticks (c : Config) (ms : Nat) : Nat := max 1 (ms * c.tickHz / 1000)

/-- `T_HDR` (R6). -/
def Config.tHdr (c : Config) : Nat := c.ticks c.tHdrMs

/-- `T_PAY` (R6). -/
def Config.tPay (c : Config) : Nat := c.ticks c.tPayMs

end Sys2Proof
end

