-- ==== Sys2Proof/Syntax.lean ====
section
/-! DEFINITION. The operations of the block: one constructor per row of spec/opcode_table.json. Ignored command bits (R37,
R39 (b)) are no operand; data of an ignored write is kept as written. -/
namespace Sys2Proof

inductive Instr where
  -- command words (R37, R38)
  /-- CMD OP 0 (R83) -/
  | nop
  /-- CMD OP 1 (R61) -/
  | recv
  /-- CMD OP 2 (R78) -/
  | send
  /-- CMD OP 3 (R55) -/
  | crcInit
  /-- CMD OP 4, `b` = CMD[15:8] (R56) -/
  | crcUpdate (b : Byte)
  /-- CMD OP 5 (R84) -/
  | reservedOp5
  /-- CMD OP 6 and 7 (R84) -/
  | reservedOp6to7 (op : BitVec 4)
  /-- CMD OP 8 to F (R84) -/
  | reservedOp8toF (op : BitVec 4)
  -- wire bytes consumed by an RX step (R62)
  /-- the byte START_BYTE in any state (R63) -/
  | rxStart
  /-- data byte in WAIT_START (R64) -/
  | rxWait (d : Byte)
  /-- data byte in SEQ (R65) -/
  | rxSeq (d : Byte)
  /-- data byte in LEN_LO (R66) -/
  | rxLenLo (d : Byte)
  /-- data byte in LEN_HI (R67) -/
  | rxLenHi (d : Byte)
  /-- data byte in PAYLOAD (R68) -/
  | rxPayload (d : Byte)
  /-- data byte in CRC_LO (R69) -/
  | rxCrcLo (d : Byte)
  /-- data byte in CRC_HI (R70) -/
  | rxCrcHi (d : Byte)
  -- the wire byte produced by a TX step
  /-- TX emit step (R79) -/
  | txEmit
  -- environment events
  /-- timer tick (R72) -/
  | envTick
  /-- abstract timeout (R74) -/
  | envTimeout
  /-- channel reset, RX side (R75) -/
  | envResetRx
  /-- channel reset, TX side (R80) -/
  | envResetTx
  -- bus writes
  /-- 32-bit write to CMD (R82) -/
  | wrCmd (v : Word)
  /-- 32-bit write to STATUS (R85) -/
  | wrStatus (v : Word)
  /-- 32-bit write to TX_CFG (R86) -/
  | wrTxCfg (v : Word)
  /-- 8-bit write to TX_BUF byte `i` (R87) -/
  | wrbTxBuf (i : Byte) (b : Byte)
  /-- 32-bit write to TX_BUF word `k`, bytes 4k..4k+3 (R87) -/
  | wrTxBuf (k : BitVec 6) (v : Word)
  /-- 32-bit write to RX_INFO, ignored (R88) -/
  | wrRxInfo (v : Word)
  /-- 32-bit write to RX_CRC, ignored (R88) -/
  | wrRxCrc (v : Word)
  /-- 32-bit write to RX_COUNT, ignored (R88) -/
  | wrRxCount (v : Word)
  /-- 32-bit write to CRC_VALUE, ignored (R88) -/
  | wrCrcValue (v : Word)
  /-- 8- or 32-bit write to RX_BUF, ignored (R88) -/
  | wrRxBuf (w : BufWidth) (i : Byte) (v : Word)
  /-- 32-bit write to a reserved offset, ignored (R88) -/
  | wrReserved (a : Offset) (v : Word)
  -- bus reads
  /-- 32-bit read of CMD (R89) -/
  | rdCmd
  /-- 32-bit read of STATUS (R89) -/
  | rdStatus
  /-- 32-bit read of RX_INFO (R89) -/
  | rdRxInfo
  /-- 32-bit read of RX_CRC (R89) -/
  | rdRxCrc
  /-- 32-bit read of RX_COUNT (R89) -/
  | rdRxCount
  /-- 32-bit read of TX_CFG (R89) -/
  | rdTxCfg
  /-- 32-bit read of CRC_VALUE (R57, R89) -/
  | rdCrcValue
  /-- 32-bit read of a reserved offset (R89) -/
  | rdReserved (a : Offset)
  /-- 8- or 32-bit read of RX_BUF (R90) -/
  | rdRxBuf (w : BufWidth) (i : Byte)
  /-- 8- or 32-bit read of TX_BUF (R90) -/
  | rdTxBuf (w : BufWidth) (i : Byte)
  /-- any access R26 does not admit (R91) -/
  | illegalAccess (a : BusAccess)
  deriving DecidableEq, Repr

end Sys2Proof
end

