-- ==== Sys2Proof/WellFormed.lean ====
section
/-! DEFINITION. Which terms of Instr stand for an encoding (`Instr.wf`), and which parameters the spec's 16-bit timer can
hold (`Config.wf`). -/
namespace Sys2Proof

/-- A buffer operand: any byte index, or a word index that is a multiple of 4 (R26 (b)). -/
def bufOperandWf (w : BufWidth) (i : Byte) : Bool :=
  match w with
  | .byte => true
  | .word => i.toNat % 4 == 0

/-- `i` is the decoding of some encoding, when the start byte is `start`: a data byte is not START_BYTE (R49), a reserved
command has its row's OP (R39 (a)), a buffer word is aligned, a reserved offset is one (R23), and an illegal access is one R26 does
not admit. -/
def Instr.wf (start : Byte) : Instr → Bool
  | .reservedOp6to7 op => op == 6 || op == 7
  | .reservedOp8toF op => 8 ≤ op.toNat
  | .rxWait d | .rxSeq d | .rxLenLo d | .rxLenHi d | .rxPayload d | .rxCrcLo d | .rxCrcHi d => d != start
  | .wrRxBuf w i _ | .rdRxBuf w i | .rdTxBuf w i => bufOperandWf w i
  | .wrReserved a _ | .rdReserved a => aligned a && reservedOffset a
  | .illegalAccess a => !a.admitted
  | .nop | .recv | .send | .crcInit | .crcUpdate _ | .reservedOp5 | .rxStart | .txEmit | .envTick | .envTimeout
  | .envResetRx | .envResetTx | .wrCmd _ | .wrStatus _ | .wrTxCfg _ | .wrbTxBuf _ _ | .wrTxBuf _ _ | .wrRxInfo _
  | .wrRxCrc _ | .wrRxCount _ | .wrCrcValue _ | .rdCmd | .rdStatus | .rdRxInfo | .rdRxCrc | .rdRxCount | .rdTxCfg
  | .rdCrcValue => true

/-- The two reload values fit the 16-bit `rx_timer` (R14, R103, log 6). -/
def Config.wf (c : Config) : Bool := c.tHdr < 0x10000 && c.tPay < 0x10000

end Sys2Proof
end

