-- ==== Sys2Proof/Decode.lean ====
section
/-! DEFINITION. From encodings to operations and back. `decode` is total: every command word, every channel byte and every
bus access has a row (the reserved commands and the illegal access among them); units of bytes that no row has are rejected by
name (`encodedOfBytes`). The encoder follows it, then the decoding of words written out from the spec's tables. -/
namespace Sys2Proof

/-- The command a 32-bit word written to CMD selects (R37, R38, R82). Bits [7:4] and [31:16] are ignored (R39 (b)). -/
def decodeCommand (w : Word) : Instr :=
  match (commandOp w).toNat with
  | 0 => .nop
  | 1 => .recv
  | 2 => .send
  | 3 => .crcInit
  | 4 => .crcUpdate (commandData w)
  | 5 => .reservedOp5
  | 6 | 7 => .reservedOp6to7 (commandOp w)
  | _ => .reservedOp8toF (commandOp w)

/-- The rule an incoming byte falls under: the start-byte test comes first, then the current state's rule (R49, R62). -/
def decodeWire (start : Byte) (st : RxState) (b : Byte) : Instr :=
  if b = start then .rxStart
  else match st with
    | .waitStart => .rxWait b
    | .seq => .rxSeq b
    | .lenLo => .rxLenLo b
    | .lenHi => .rxLenHi b
    | .payload => .rxPayload b
    | .crcLo => .rxCrcLo b
    | .crcHi => .rxCrcHi b

/-- The row of an admitted write (R23, R82, R85 to R88). -/
def decodeWrite (width : Nat) (a : Offset) (v : Word) : Instr :=
  if a = offCmd then .wrCmd v
  else if a = offStatus then .wrStatus v
  else if a = offRxInfo then .wrRxInfo v
  else if a = offRxCrc then .wrRxCrc v
  else if a = offRxCount then .wrRxCount v
  else if a = offTxCfg then .wrTxCfg v
  else if a = offCrcValue then .wrCrcValue v
  else if a.toNat < 0x100 then .wrReserved a v
  else if a.toNat < 0x200 then .wrRxBuf (BufWidth.ofBits width) (bufIndex a) v
  else if a.toNat < 0x300 then
    if width = 8 then .wrbTxBuf (bufIndex a) (byteLane v 0) else .wrTxBuf (bufWordIndex a) v
  else .wrReserved a v

/-- The row of an admitted read (R23, R57, R89, R90). -/
def decodeRead (width : Nat) (a : Offset) : Instr :=
  if a = offCmd then .rdCmd
  else if a = offStatus then .rdStatus
  else if a = offRxInfo then .rdRxInfo
  else if a = offRxCrc then .rdRxCrc
  else if a = offRxCount then .rdRxCount
  else if a = offTxCfg then .rdTxCfg
  else if a = offCrcValue then .rdCrcValue
  else if a.toNat < 0x100 then .rdReserved a
  else if a.toNat < 0x200 then .rdRxBuf (BufWidth.ofBits width) (bufIndex a)
  else if a.toNat < 0x300 then .rdTxBuf (BufWidth.ofBits width) (bufIndex a)
  else .rdReserved a

/-- The row of any bus access: one R26 does not admit is the illegal access of R91. -/
def decodeAccess (a : BusAccess) : Instr :=
  if a.admitted then
    match a with
    | .read w addr => decodeRead w addr
    | .write w addr v => decodeWrite w addr v
  else .illegalAccess a

/-- The row of an event without encoding (R72, R74, R75, R80). -/
def decodeEvent : EnvEvent → Instr
  | .tick => .envTick
  | .timeout => .envTimeout
  | .channelResetRx => .envResetRx
  | .channelResetTx => .envResetTx

/-- The decoder. A channel byte is read in the FSM state `st`, with the start byte `start` (R49). -/
def decode (start : Byte) (st : RxState) : Encoded → Instr
  | .commandWord w => decodeCommand w
  | .wireIn b => decodeWire start st b
  | .wireOut => .txEmit
  | .access a => decodeAccess a
  | .event e => decodeEvent e

/-- A unit of bytes, the first at the lowest address, as an encoding of the table, zero above what is given (log 10): four
bytes are a command word, little-endian (R25); two are a window offset, of a 32-bit write of zero; one is START_BYTE on the
wire or else the low byte of a command word. -/
def encodedOfBytes : List Byte → Except DecodeError Encoded
  | [b] => .ok (if b = Config.default.startByte then .wireIn b else .commandWord (b.setWidth 32))
  | [b0, b1] =>
    if b1.toNat < 0x10 then .ok (.access (.write 32 ((b1 ++ b0).setWidth 12) 0))
    else .error (.offsetTooWide (b1 ++ b0).toNat)
  | [b0, b1, b2, b3] => .ok (.commandWord (wordOfLanes b0 b1 b2 b3))
  | bs => .error (.noSuchLength bs.length)

/-- The bytes of a table word of `nbits` bits, the least significant first. -/
def tableBytes (nbits w : Nat) : List Byte :=
  (List.range ((nbits + 7) / 8)).map (fun k => BitVec.ofNat 8 (w >>> (8 * k)))

/-- What the decoder reads from a word numbered as spec/opcode_table.json numbers it, with the default START_BYTE and the FSM in
WAIT_START (log 10). -/
def decodeTableWord (nbits w : Nat) : Option Instr :=
  match encodedOfBytes (tableBytes nbits w) with
  | .ok e => some (decode Config.default.startByte .waitStart e)
  | .error _ => none

/-! ## The encoder -/

/-- The encoding of an operation, when the start byte is `start` (R37, R38, R45, R50, R23). -/
def encode (start : Byte) : Instr → Encoded
  | .nop => .commandWord 0x0
  | .recv => .commandWord 0x1
  | .send => .commandWord 0x2
  | .crcInit => .commandWord 0x3
  | .crcUpdate b => .commandWord (0x4 ||| (b.setWidth 32 <<< 8))
  | .reservedOp5 => .commandWord 0x5
  | .reservedOp6to7 op => .commandWord (op.setWidth 32)
  | .reservedOp8toF op => .commandWord (op.setWidth 32)
  | .rxStart => .wireIn start
  | .rxWait d => .wireIn d
  | .rxSeq d => .wireIn d
  | .rxLenLo d => .wireIn d
  | .rxLenHi d => .wireIn d
  | .rxPayload d => .wireIn d
  | .rxCrcLo d => .wireIn d
  | .rxCrcHi d => .wireIn d
  | .txEmit => .wireOut
  | .envTick => .event .tick
  | .envTimeout => .event .timeout
  | .envResetRx => .event .channelResetRx
  | .envResetTx => .event .channelResetTx
  | .wrCmd v => .access (.write 32 offCmd v)
  | .wrStatus v => .access (.write 32 offStatus v)
  | .wrTxCfg v => .access (.write 32 offTxCfg v)
  | .wrbTxBuf i b => .access (.write 8 (offTxBuf i) (b.setWidth 32))
  | .wrTxBuf k v => .access (.write 32 (offTxBuf (wordByteIndex k)) v)
  | .wrRxInfo v => .access (.write 32 offRxInfo v)
  | .wrRxCrc v => .access (.write 32 offRxCrc v)
  | .wrRxCount v => .access (.write 32 offRxCount v)
  | .wrCrcValue v => .access (.write 32 offCrcValue v)
  | .wrRxBuf w i v => .access (.write w.bits (offRxBuf i) v)
  | .wrReserved a v => .access (.write 32 a v)
  | .rdCmd => .access (.read 32 offCmd)
  | .rdStatus => .access (.read 32 offStatus)
  | .rdRxInfo => .access (.read 32 offRxInfo)
  | .rdRxCrc => .access (.read 32 offRxCrc)
  | .rdRxCount => .access (.read 32 offRxCount)
  | .rdTxCfg => .access (.read 32 offTxCfg)
  | .rdCrcValue => .access (.read 32 offCrcValue)
  | .rdReserved a => .access (.read 32 a)
  | .rdRxBuf w i => .access (.read w.bits (offRxBuf i))
  | .rdTxBuf w i => .access (.read w.bits (offTxBuf i))
  | .illegalAccess a => .access a

/-- The FSM state in which a wire row is selected, for the rows that have one (the table's condition column). -/
def Instr.rxContext : Instr → Option RxState
  | .rxWait _ => some .waitStart
  | .rxSeq _ => some .seq
  | .rxLenLo _ => some .lenLo
  | .rxLenHi _ => some .lenHi
  | .rxPayload _ => some .payload
  | .rxCrcLo _ => some .crcLo
  | .rxCrcHi _ => some .crcHi
  | _ => none

/-! ## Words written out from the spec's encodings

Command words: R37, R38 and the table of R50. Wire bytes: R45, R49, with START_BYTE = 0xAE. Offsets: R23. -/

theorem decode_word_nop : decodeCommand 0x00000000 = .nop := by decide
theorem decode_word_nop_ignored_bits : decodeCommand 0xFFFFFFF0 = .nop := by decide
theorem decode_word_recv : decodeCommand 0x00000001 = .recv := by decide
theorem decode_word_send : decodeCommand 0x00000002 = .send := by decide
theorem decode_word_crcInit : decodeCommand 0x00000003 = .crcInit := by decide
theorem decode_word_crcUpdate : decodeCommand 0xABCD4114 = .crcUpdate 0x41 := by decide
theorem decode_word_reservedOp5 : decodeCommand 0x00000005 = .reservedOp5 := by decide
theorem decode_word_reservedOp6to7 : decodeCommand 0x00000007 = .reservedOp6to7 7 := by decide
theorem decode_word_reservedOp8toF : decodeCommand 0x0000000F = .reservedOp8toF 0xF := by decide
theorem decode_byte_rxStart : decodeWire 0xAE .crcHi 0xAE = .rxStart := by decide
theorem decode_byte_rxWait : decodeWire 0xAE .waitStart 0x11 = .rxWait 0x11 := by decide
theorem decode_byte_rxSeq : decodeWire 0xAE .seq 0x07 = .rxSeq 0x07 := by decide
theorem decode_byte_rxLenLo : decodeWire 0xAE .lenLo 0x02 = .rxLenLo 0x02 := by decide
theorem decode_byte_rxLenHi : decodeWire 0xAE .lenHi 0x01 = .rxLenHi 0x01 := by decide
theorem decode_byte_rxPayload : decodeWire 0xAE .payload 0x03 = .rxPayload 0x03 := by decide
theorem decode_byte_rxCrcLo : decodeWire 0xAE .crcLo 0xC3 = .rxCrcLo 0xC3 := by decide
theorem decode_byte_rxCrcHi : decodeWire 0xAE .crcHi 0x88 = .rxCrcHi 0x88 := by decide
theorem decode_txEmit : decode 0xAE .waitStart .wireOut = .txEmit := by decide
theorem decode_envTick : decode 0xAE .waitStart (.event .tick) = .envTick := by decide
theorem decode_envTimeout : decode 0xAE .waitStart (.event .timeout) = .envTimeout := by decide
theorem decode_envResetRx : decode 0xAE .waitStart (.event .channelResetRx) = .envResetRx := by decide
theorem decode_envResetTx : decode 0xAE .waitStart (.event .channelResetTx) = .envResetTx := by decide
theorem decode_wr_000 : decodeAccess (.write 32 0x000 0x00004104) = .wrCmd 0x00004104 := by decide
theorem decode_wr_004 : decodeAccess (.write 32 0x004 0x12) = .wrStatus 0x12 := by decide
theorem decode_wr_008 : decodeAccess (.write 32 0x008 0x12345678) = .wrRxInfo 0x12345678 := by decide
theorem decode_wr_00C : decodeAccess (.write 32 0x00C 1) = .wrRxCrc 1 := by decide
theorem decode_wr_010 : decodeAccess (.write 32 0x010 1) = .wrRxCount 1 := by decide
theorem decode_wr_014 : decodeAccess (.write 32 0x014 0x00020007) = .wrTxCfg 0x00020007 := by decide
theorem decode_wr_018 : decodeAccess (.write 32 0x018 0) = .wrCrcValue 0 := by decide
theorem decode_wr_01C : decodeAccess (.write 32 0x01C 5) = .wrReserved 0x01C 5 := by decide
theorem decode_wr_300 : decodeAccess (.write 32 0x300 7) = .wrReserved 0x300 7 := by decide
theorem decode_wrb_101 : decodeAccess (.write 8 0x101 7) = .wrRxBuf .byte 0x01 7 := by decide
theorem decode_wr_104 : decodeAccess (.write 32 0x104 7) = .wrRxBuf .word 0x04 7 := by decide
theorem decode_wrb_2FF : decodeAccess (.write 8 0x2FF 0x55) = .wrbTxBuf 0xFF 0x55 := by decide
theorem decode_wr_2FC : decodeAccess (.write 32 0x2FC 0x04030201) = .wrTxBuf 0x3F 0x04030201 := by decide
theorem decode_rd_000 : decodeAccess (.read 32 0x000) = .rdCmd := by decide
theorem decode_rd_004 : decodeAccess (.read 32 0x004) = .rdStatus := by decide
theorem decode_rd_008 : decodeAccess (.read 32 0x008) = .rdRxInfo := by decide
theorem decode_rd_00C : decodeAccess (.read 32 0x00C) = .rdRxCrc := by decide
theorem decode_rd_010 : decodeAccess (.read 32 0x010) = .rdRxCount := by decide
theorem decode_rd_014 : decodeAccess (.read 32 0x014) = .rdTxCfg := by decide
theorem decode_rd_018 : decodeAccess (.read 32 0x018) = .rdCrcValue := by decide
theorem decode_rd_0FC : decodeAccess (.read 32 0x0FC) = .rdReserved 0x0FC := by decide
theorem decode_rd_FFC : decodeAccess (.read 32 0xFFC) = .rdReserved 0xFFC := by decide
theorem decode_rdb_101 : decodeAccess (.read 8 0x101) = .rdRxBuf .byte 0x01 := by decide
theorem decode_rd_100 : decodeAccess (.read 32 0x100) = .rdRxBuf .word 0x00 := by decide
theorem decode_rdb_203 : decodeAccess (.read 8 0x203) = .rdTxBuf .byte 0x03 := by decide
theorem decode_rd_2FC : decodeAccess (.read 32 0x2FC) = .rdTxBuf .word 0xFC := by decide
theorem decode_illegal_byte_register : decodeAccess (.read 8 0x004) = .illegalAccess (.read 8 0x004) := by decide
theorem decode_illegal_misaligned : decodeAccess (.read 32 0x101) = .illegalAccess (.read 32 0x101) := by decide
theorem decode_illegal_width : decodeAccess (.read 16 0x100) = .illegalAccess (.read 16 0x100) := by decide
theorem decode_table_command : decodeTableWord 32 0x00000001 = some .recv := by decide
theorem decode_table_start : decodeTableWord 8 0xAE = some .rxStart := by decide
theorem decode_table_offset : decodeTableWord 16 0x014 = some (.wrTxCfg 0) := by decide
theorem decode_table_no_such_length : decodeTableWord 24 0 = none := by decide

end Sys2Proof
end

