-- ==== Sys2Proof/Machine/Crc.lean ====
section
/-! DEFINITION. The CRC-16 functions of 40_crc.md (R51, R52) over any profile. -/
namespace Sys2Proof

/-- One turn of R51's loop: shift left, and reduce by the polynomial when bit 15 falls out. -/
def crcShift (p : CrcProfile) (c : Half) : Half :=
  if c.getLsbD 15 then (c <<< 1) ^^^ p.poly else c <<< 1

/-- `n` turns of R51's loop. -/
def crcShifts (p : CrcProfile) : Nat → Half → Half
  | 0, c => c
  | n + 1, c => crcShifts p n (crcShift p c)

/-- The input byte as the register takes it: reflected when `CRC_REFIN` is set (R51). -/
def crcInByte (p : CrcProfile) (b : Byte) : Byte := if p.refIn then b.reverse else b

/-- `crc_update(c, b)` (R51). -/
def crcUpdate (p : CrcProfile) (c : Half) (b : Byte) : Half :=
  crcShifts p 8 (c ^^^ ((crcInByte p b).setWidth 16 <<< 8))

/-- `crc_final(c)` (R52). -/
def crcFinal (p : CrcProfile) (c : Half) : Half :=
  (if p.refOut then c.reverse else c) ^^^ p.xorOut

/-- `fold(crc_update, c, bytes)` (R46). -/
def crcFold (p : CrcProfile) (c : Half) (bytes : List Byte) : Half := bytes.foldl (crcUpdate p) c

/-- `CRC16(bytes)` (R46, R52). -/
def crc16 (p : CrcProfile) (bytes : List Byte) : Half := crcFinal p (crcFold p p.init bytes)

end Sys2Proof
end

