-- ==== Sys2Proof/Machine/State.lean ====
section
/-! DEFINITION. The state of one framer instance, of the two ends of its channel and of its host (10_state.md), as plain
data; the reasons a step stops; the state after reset (R108). -/
namespace Sys2Proof.Machine

/-- Buffer bytes written since the last block reset: (index, byte) pairs, indexes strictly rising. An index that is not
listed has not been written; what it reads as is a free value (log 3). -/
abbrev Memory := List Host.Cell

/-- The canonical form: indexes strictly rising, so that equal memories are equal lists. Unlisted means unwritten, which is no
byte value, so no entry can equal it (log 3). -/
def Memory.wf : Memory → Bool
  | [] => true
  | [_] => true
  | c :: d :: m => decide (c.1 < d.1) && Memory.wf (d :: m)

/-- Every listed index is below `n`. -/
def Memory.below (n : Nat) (m : Memory) : Bool := m.all (fun c => decide (c.1 < n))

structure State where
  /-- the parameters, constant (R5, log 2) -/
  cfg : Config
  /-- `crc_acc`, the host CRC register (R13) -/
  crcAcc : Half
  /-- `rx_state` (R14) -/
  rxState : RxState
  /-- `rx_busy` (R14) -/
  rxBusy : Bool
  /-- `rx_done` (R14) -/
  rxDone : Bool
  /-- `rx_result` (R14) -/
  rxResult : RxResult
  /-- `rx_seq` (R14) -/
  rxSeq : Byte
  /-- `rx_len` (R14) -/
  rxLen : Half
  /-- `rx_cnt`, 9 bits (R14) -/
  rxCnt : BitVec 9
  /-- `rx_crc_acc` (R14) -/
  rxCrcAcc : Half
  /-- `rx_crc_recv` (R14) -/
  rxCrcRecv : Half
  /-- `rx_crc_calc` (R14) -/
  rxCrcCalc : Half
  /-- `rx_buf` (R14): the bytes written since reset -/
  rxBuf : Memory
  /-- `rx_timer` (R14, R103) -/
  rxTimer : Half
  /-- `tx_busy` (R16) -/
  txBusy : Bool
  /-- `tx_done` (R16) -/
  txDone : Bool
  /-- `tx_err` (R16) -/
  txErr : Bool
  /-- `tx_seq` (R16) -/
  txSeq : Byte
  /-- `tx_len` (R16) -/
  txLen : Half
  /-- `tx_buf` (R16): the bytes written since reset -/
  txBuf : Memory
  /-- `tx_idx` (R16) -/
  txIdx : Half
  /-- `tx_crc_acc` (R16) -/
  txCrcAcc : Half
  /-- `cmd_err` (R18) -/
  cmdErr : Bool
  /-- `cmd_cause` (R18) -/
  cmdCause : CmdCause
  /-- `health` (R18, R98) -/
  health : Health
  /-- `rx_queue`, oldest byte first; the environment's (R12) -/
  rxQueue : List Byte
  /-- `tx_out`, oldest byte first; the environment's (R12) -/
  txOut : List Byte
  /-- the host's accumulator `a` (R50) -/
  hostA : Word
  /-- the model's own: what the agents do next, in order (R11, log 1) -/
  pending : List Stimulus
  /-- the model's own: how many block resets there were, which selects the draw of the unspecified bytes (U1, log 3) -/
  resets : Nat
  deriving DecidableEq, Repr

/-- Why the machine stops. -/
inductive Fault where
  /-- An access R26 does not admit (R91, R94): raised by `illegal_access` alone. Safe: the spec says "A model treats the access
  as a fault of the host step". -/
  | busError (addr : Offset)
  deriving DecidableEq, Repr

/-- Why an operation has no meaning. -/
inductive Refusal where
  /-- Raised by an arm of exec for a row that has no meaning yet. Safe. No arm does. -/
  | notModelled (mnemonic : String)
  deriving DecidableEq, Repr

/-- What a meaning answers. -/
abbrev Result := Host.Outcome State Fault Refusal

/-- The machine right after reset with the given parameters (R108; the environment's, the host's and the model's own fields:
log 1, 3, 4, 5). -/
def State.resetWith (c : Config) : State :=
  { cfg := c
    crcAcc := c.crc.init
    rxState := .waitStart
    rxBusy := false
    rxDone := false
    rxResult := .none
    rxSeq := 0x00
    rxLen := 0x0000
    rxCnt := 0
    rxCrcAcc := c.crc.init
    rxCrcRecv := 0x0000
    rxCrcCalc := 0x0000
    rxBuf := []
    rxTimer := 0
    txBusy := false
    txDone := false
    txErr := false
    txSeq := 0x00
    txLen := 0x0000
    txBuf := []
    txIdx := 0
    txCrcAcc := c.crc.init
    cmdErr := false
    cmdCause := .none
    health := .unknown
    rxQueue := []
    txOut := []
    hostA := 0
    pending := []
    resets := 0 }

/-- The machine right after reset, with the default parameters of R5. -/
def State.reset : State := State.resetWith Config.default

end Sys2Proof.Machine
end

