-- ==== Sys2Proof/Machine/Flags.lean ====
section
/-! DEFINITION. The numeric codes of states, results, health and causes (R41 to R44), the host-visible register words built from
the flags and fields (R40, R89), the completion output (R97), and what a write to STATUS clears (R85). -/
namespace Sys2Proof

/-- RX_STATE codes (R41). -/
def RxState.code : RxState → BitVec 3
  | .waitStart => 0
  | .seq => 1
  | .lenLo => 2
  | .lenHi => 3
  | .payload => 4
  | .crcLo => 5
  | .crcHi => 6

/-- RX_RESULT codes (R42). -/
def RxResult.code : RxResult → BitVec 3
  | .none => 0
  | .frame => 1
  | .timeout => 2
  | .checksumError => 3
  | .overflowError => 4
  | .channelError => 5

/-- HEALTH codes (R43). -/
def Health.code : Health → BitVec 2
  | .unknown => 0
  | .ok => 1
  | .fail => 2

/-- CMD_CAUSE codes (R44). -/
def CmdCause.code : CmdCause → BitVec 4
  | .none => 0
  | .reservedOp => 1
  | .rxBusy => 2
  | .txBusy => 3
  | .txLength => 4

namespace Machine

/-- A flag as a 32-bit value, 0 or 1. -/
def flagWord (b : Bool) : Word := (BitVec.ofBool b).setWidth 32

/-- STATUS (R40, R89). -/
def State.statusWord (s : State) : Word :=
  flagWord s.rxBusy ||| flagWord s.rxDone <<< 1 ||| flagWord s.txBusy <<< 2 ||| flagWord s.txDone <<< 3
    ||| flagWord s.cmdErr <<< 4 ||| flagWord s.txErr <<< 5 ||| s.health.code.setWidth 32 <<< 6
    ||| s.rxResult.code.setWidth 32 <<< 8 ||| s.rxState.code.setWidth 32 <<< 12 ||| s.cmdCause.code.setWidth 32 <<< 16

/-- RX_INFO (R40, R89). -/
def State.rxInfoWord (s : State) : Word := s.rxSeq.setWidth 32 ||| s.rxLen.setWidth 32 <<< 16

/-- RX_CRC (R40, R89). -/
def State.rxCrcWord (s : State) : Word := s.rxCrcRecv.setWidth 32 ||| s.rxCrcCalc.setWidth 32 <<< 16

/-- RX_COUNT (R40, R89). -/
def State.rxCountWord (s : State) : Word := s.rxCnt.setWidth 32

/-- TX_CFG (R40, R89). -/
def State.txCfgWord (s : State) : Word := s.txSeq.setWidth 32 ||| s.txLen.setWidth 32 <<< 16

/-- CRC_VALUE (R57, R89). -/
def State.crcValueWord (s : State) : Word := (crcFinal s.cfg.crc s.crcAcc).setWidth 32

/-- The completion output `irq = rx_done OR tx_done` (R97). -/
def State.irq (s : State) : Bool := s.rxDone || s.txDone

/-- What a write of `v` to STATUS does: write-1-to-clear of RX_DONE, TX_DONE, CMD_ERR with CMD_CAUSE, and TX_ERR (R85). -/
def State.clearStatus (v : Word) (s : State) : State :=
  { s with
    rxDone := s.rxDone && !v.getLsbD 1
    txDone := s.txDone && !v.getLsbD 3
    cmdErr := s.cmdErr && !v.getLsbD 4
    cmdCause := if v.getLsbD 4 then .none else s.cmdCause
    txErr := s.txErr && !v.getLsbD 5 }

end Machine
end Sys2Proof
end

