-- ==== Sys2Proof/Machine/Ops.lean ====
section
/-! DEFINITION. The named operations over buffers, queues and registers, and the block's exceptions: posting a result (R58, R92,
R100) with the return from it (R61, R101), rejecting a command (R93), and answering a bus error (R94). -/
namespace Sys2Proof.Machine

/-! ## Buffer memory -/

/-- The byte written at index `a`, if one was. -/
def Memory.lookup : Memory → Nat → Option Byte
  | [], _ => none
  | c :: m, a => if c.1 = a then some c.2 else Memory.lookup m a

/-- `m` with byte `b` at index `a`, in canonical form. -/
def Memory.store : Memory → Nat → Byte → Memory
  | [], a, b => [(a, b)]
  | c :: m, a, b =>
    if a < c.1 then (a, b) :: c :: m
    else if a = c.1 then (a, b) :: m
    else c :: Memory.store m a b

/-- A buffer byte as the host and the engines read it: bytes at index MAX_PAYLOAD and above read 0 (R23), a byte nothing has
written is the free value `unwritten` (U1). -/
def bufferByte (maxPayload : Nat) (m : Memory) (unwritten : Byte) (i : Nat) : Byte :=
  if i < maxPayload then (m.lookup i).getD unwritten else 0

/-- A buffer with byte `i` stored: bytes at index MAX_PAYLOAD and above ignore writes (R23, log 8). -/
def bufferStore (maxPayload : Nat) (m : Memory) (i : Nat) (b : Byte) : Memory :=
  if i < maxPayload then m.store i b else m

/-- `rx_buf[i]` (R14, R23). -/
def State.rxByte (s : State) (i : Nat) : Byte :=
  bufferByte s.cfg.maxPayload s.rxBuf (Config.unspecifiedRxByte s.resets i) i

/-- `tx_buf[i]` (R16, R23). -/
def State.txByte (s : State) (i : Nat) : Byte :=
  bufferByte s.cfg.maxPayload s.txBuf (Config.unspecifiedTxByte s.resets i) i

/-- `rx_buf[i] <- b`. -/
def State.storeRxByte (s : State) (i : Nat) (b : Byte) : State :=
  { s with rxBuf := bufferStore s.cfg.maxPayload s.rxBuf i b }

/-- `tx_buf[i] <- b`. -/
def State.storeTxByte (s : State) (i : Nat) (b : Byte) : State :=
  { s with txBuf := bufferStore s.cfg.maxPayload s.txBuf i b }

/-- `tx_buf[i+k] <- v[8k+7 : 8k]` for k in 0..3 (R87). -/
def State.storeTxWord (s : State) (i : Nat) (v : Word) : State :=
  (((s.storeTxByte i (byteLane v 0)).storeTxByte (i + 1) (byteLane v 1)).storeTxByte (i + 2) (byteLane v 2)).storeTxByte
    (i + 3) (byteLane v 3)

/-- A buffer read of either width, from a reader of one byte: `zext_32(buf[i])`, or the four bytes from `i`, little-endian
(R25, R90). -/
def readBuffer (byteAt : Nat → Byte) (w : BufWidth) (i : Nat) : Word :=
  match w with
  | .byte => (byteAt i).setWidth 32
  | .word => wordOfLanes (byteAt i) (byteAt (i + 1)) (byteAt (i + 2)) (byteAt (i + 3))

/-! ## The channel -/

/-- `TxPush(b)` (R12). -/
def State.txPush (s : State) (b : Byte) : State := { s with txOut := s.txOut ++ [b] }

/-- The environment appends bytes to `rx_queue` (R12). DESIGN CHOICE (log 19): any list of bytes may arrive in one step, one byte
among them. -/
def State.rxArrive (s : State) (bytes : List Byte) : State := { s with rxQueue := s.rxQueue ++ bytes }

/-! ## The host -/

/-- A read leaves its data in the host's accumulator and changes nothing else (R28, R50). -/
def State.hostReads (s : State) (v : Word) : State := { s with hostA := v }

/-! ## The timer -/

/-- A reload value as the 16-bit timer holds it (R14, log 6). -/
def timerValue (ticks : Nat) : Half := BitVec.ofNat 16 ticks

/-- Which reload value the FSM state uses: T_PAY in PAYLOAD, CRC_LO and CRC_HI, T_HDR otherwise (R60). -/
def reloadTicks (c : Config) : RxState → Nat
  | .payload | .crcLo | .crcHi => c.tPay
  | .waitStart | .seq | .lenLo | .lenHi => c.tHdr

/-- `Reload()` (R60), evaluated after the byte's state update. -/
def State.reload (s : State) : State := { s with rxTimer := timerValue (reloadTicks s.cfg s.rxState) }

/-! ## Frames -/

/-- `Begin()` (R59). -/
def State.beginFrame (s : State) : State :=
  { s with
    rxSeq := 0x00
    rxLen := 0x0000
    rxCnt := 0
    rxCrcAcc := s.cfg.crc.init
    rxCrcRecv := 0x0000
    rxCrcCalc := 0x0000 }

/-- `rx_crc_acc <- crc_update(rx_crc_acc, b)`. -/
def State.feedRxCrc (s : State) (b : Byte) : State := { s with rxCrcAcc := crcUpdate s.cfg.crc s.rxCrcAcc b }

/-! ## Exceptions -/

/-- Taking a receive result: `Post(r)` (R58, R92, R100). -/
def State.postResult (s : State) (r : RxResult) : State :=
  { s with rxResult := r, rxDone := true, rxBusy := false, rxState := .waitStart, rxTimer := 0 }

/-- The return from a receive result: the accepted RECV of R61 (R101). -/
def State.armReceive (s : State) : State :=
  { s with rxBusy := true, rxDone := false, rxResult := .none, rxTimer := timerValue s.cfg.tHdr }

/-- `Reject(cause)` (R93). -/
def State.rejectCommand (s : State) (c : CmdCause) : State := { s with cmdErr := true, cmdCause := c }

/-- `raise BusError(addr)`: the host step faults and no state changes (R94, U3, log 13). -/
def raiseBusError (a : Offset) : Result := .fault (.busError a)

/-! ## Block reset -/

/-- Every element of the block takes its reset value; the parameters, the environment's queue and record, the host's
accumulator and the stimuli stay; the buffers are drawn anew (R108, log 3). -/
def State.blockReset (s : State) : State :=
  { State.resetWith s.cfg with
    rxQueue := s.rxQueue
    txOut := s.txOut
    hostA := s.hostA
    pending := s.pending
    resets := s.resets + 1 }

end Sys2Proof.Machine
end

