-- ==== Sys2Proof/Machine/EnvEvents.lean ====
section
/-! DEFINITION. The environment's events: the timer tick (R72, R73), the abstract timeout (R74), and the two sides of a channel
reset (R75, R80). -/
namespace Sys2Proof.Machine

/-- Timer tick (R72): the last tick posts TIMEOUT (R73). -/
def execEnvTick (s : State) : Result :=
  if s.rxBusy then
    if s.rxTimer.toNat ≤ 1 then .next (s.postResult .timeout) else .next { s with rxTimer := s.rxTimer - 1 }
  else .next s

/-- The TIMEOUT step of a model that does not count ticks, enabled whenever `rx_busy = 1` (R74, log 9). -/
def execEnvTimeout (s : State) : Result := if s.rxBusy then .next (s.postResult .timeout) else .next s

/-- The RX side's part of a channel reset: `rx_queue <- empty; if rx_busy = 1: Post(CHANNEL_ERROR)` (R75). -/
def execEnvResetRx (s : State) : Result :=
  if s.rxBusy then .next ({ s with rxQueue := [] }.postResult .channelError) else .next { s with rxQueue := [] }

/-- The TX side's part of a channel reset (R80, R95). -/
def execEnvResetTx (s : State) : Result :=
  if s.txBusy then .next { s with txBusy := false, txErr := true, txIdx := 0 } else .next s

end Sys2Proof.Machine
end

