-- ==== Sys2Proof/Machine/Commands.lean ====
section
/-! DEFINITION. The command words without an engine of their own: NOP and the reserved commands (R83, R84) and the host CRC
generator (R55, R56). -/
namespace Sys2Proof.Machine

/-- NOP (R83). -/
def execNop (s : State) : Result := .next s

/-- CRC_INIT (R55): accepted in every state. -/
def execCrcInit (s : State) : Result := .next { s with crcAcc := s.cfg.crc.init }

/-- CRC_UPDATE (R56): accepted in every state. -/
def execCrcUpdate (b : Byte) (s : State) : Result := .next { s with crcAcc := crcUpdate s.cfg.crc s.crcAcc b }

/-- Reserved command, OP = 5 (R84). -/
def execReservedOp5 (s : State) : Result := .next (s.rejectCommand .reservedOp)

/-- Reserved command, OP = 6 or 7 (R84): the OP itself has no further effect. -/
def execReservedOp6to7 (_op : BitVec 4) (s : State) : Result := .next (s.rejectCommand .reservedOp)

/-- Reserved command, OP = 8 to F (R84): the OP itself has no further effect. -/
def execReservedOp8toF (_op : BitVec 4) (s : State) : Result := .next (s.rejectCommand .reservedOp)

end Sys2Proof.Machine
end

