-- ==== Sys2Proof/Machine/RxFramer.lean ====
section
/-! DEFINITION. The receive framer (41_rx_framer.md): the RECV command and one meaning per rule of an RX byte step. The byte is
already taken from `rx_queue` (R62: the step does that), and each meaning applies under its row's condition; where the condition
does not hold the event does not occur and nothing changes (log 7). -/
namespace Sys2Proof.Machine

/-- RECV (R61). -/
def execRecv (s : State) : Result :=
  if s.rxBusy then .next (s.rejectCommand .rxBusy) else .next s.armReceive

/-- The condition of a data-byte row: armed, in the row's state, and the byte is not START_BYTE (R49, R62). -/
def dataByteApplies (st : RxState) (d : Byte) (s : State) : Bool :=
  s.rxBusy && decide (s.rxState = st) && decide (d ≠ s.cfg.startByte)

/-- A data-byte step in state `st`, with effect `f` where its condition holds. -/
def onDataByte (st : RxState) (d : Byte) (f : State → State) (s : State) : Result :=
  if dataByteApplies st d s then .next (f s) else .next s

/-- The effect of a start byte: `Begin(); rx_state <- SEQ; Reload()` (R63). -/
def State.startByteEffect (s : State) : State := { s.beginFrame with rxState := .seq }.reload

/-- Start byte, in any state (R63). -/
def execRxStart (s : State) : Result := if s.rxBusy then .next s.startByteEffect else .next s

/-- Data byte in WAIT_START (R64): discarded. -/
def execRxWait (d : Byte) (s : State) : Result := onDataByte .waitStart d State.reload s

/-- Data byte in SEQ (R65). -/
def execRxSeq (d : Byte) (s : State) : Result :=
  onDataByte .seq d (fun s => { s with rxSeq := d, rxState := .lenLo }.feedRxCrc d |>.reload) s

/-- Data byte in LEN_LO (R66). -/
def execRxLenLo (d : Byte) (s : State) : Result :=
  onDataByte .lenLo d (fun s => { s with rxLen := setLowByte s.rxLen d, rxState := .lenHi }.feedRxCrc d |>.reload) s

/-- What follows once the length is complete: overflow, zero length or payload, tested in this order (R67, R99 (b)). -/
def State.lengthDeclared (s : State) : State :=
  if s.cfg.maxPayload < s.rxLen.toNat then s.postResult .overflowError
  else if s.rxLen = 0 then { s with rxState := .crcLo }.reload
  else { s with rxState := .payload }.reload

/-- Data byte in LEN_HI (R67). -/
def execRxLenHi (d : Byte) (s : State) : Result :=
  onDataByte .lenHi d (fun s => ({ s with rxLen := setHighByte s.rxLen d }.feedRxCrc d).lengthDeclared) s

/-- The payload byte is counted, and the last one ends the payload: `rx_cnt <- rx_cnt + 1; if rx_cnt = rx_len: rx_state <- CRC_LO`
(R68). -/
def State.countPayloadByte (s : State) : State :=
  { s with
    rxCnt := s.rxCnt + 1
    rxState := if (s.rxCnt + 1).toNat = s.rxLen.toNat then .crcLo else s.rxState }

/-- Data byte in PAYLOAD (R68). -/
def execRxPayload (d : Byte) (s : State) : Result :=
  onDataByte .payload d (fun s => (s.storeRxByte s.rxCnt.toNat d).feedRxCrc d |>.countPayloadByte.reload) s

/-- Data byte in CRC_LO (R69): not fed to the CRC. -/
def execRxCrcLo (d : Byte) (s : State) : Result :=
  onDataByte .crcLo d (fun s => { s with rxCrcRecv := setLowByte s.rxCrcRecv d, rxState := .crcHi }.reload) s

/-- The checksum check of R70: all 16 bits are compared, and `health` takes the verdict (R98). -/
def State.checkChecksum (s : State) : State :=
  if s.rxCrcCalc = s.rxCrcRecv then { s with health := .ok }.postResult .frame
  else { s with health := .fail }.postResult .checksumError

/-- Data byte in CRC_HI (R70). -/
def execRxCrcHi (d : Byte) (s : State) : Result :=
  onDataByte .crcHi d
    (fun s => { s with rxCrcRecv := setHighByte s.rxCrcRecv d, rxCrcCalc := crcFinal s.cfg.crc s.rxCrcAcc }.checkChecksum) s

end Sys2Proof.Machine
end

