-- ==== Sys2Proof/Machine/TxFramer.lean ====
section
/-! DEFINITION. The transmit framer (42_tx_framer.md): the SEND command and the TX emit step. -/
namespace Sys2Proof.Machine

/-- The accepted SEND of R78. -/
def State.startSend (s : State) : State :=
  { s with txBusy := true, txDone := false, txIdx := 0, txCrcAcc := s.cfg.crc.init }

/-- SEND (R78): the busy test comes before the length test (R99 (c)). -/
def execSend (s : State) : Result :=
  if s.txBusy then .next (s.rejectCommand .txBusy)
  else if s.cfg.maxPayload < s.txLen.toNat then .next (s.rejectCommand .txLength)
  else .next s.startSend

/-- The wire byte at `tx_idx` (R45, R79). -/
def State.txWireByte (s : State) : Byte :=
  let len := s.txLen.toNat
  let i := s.txIdx.toNat
  if i = 0 then s.cfg.startByte
  else if i = 1 then s.txSeq
  else if i = 2 then lowByte s.txLen
  else if i = 3 then highByte s.txLen
  else if i ≤ 3 + len then s.txByte (i - 4)
  else if i = 4 + len then lowByte (crcFinal s.cfg.crc s.txCrcAcc)
  else highByte (crcFinal s.cfg.crc s.txCrcAcc)

/-- `if 1 <= i <= 3+L: tx_crc_acc <- crc_update(tx_crc_acc, b)` (R79). -/
def State.feedTxCrc (s : State) (b : Byte) : State :=
  if 1 ≤ s.txIdx.toNat ∧ s.txIdx.toNat ≤ 3 + s.txLen.toNat then { s with txCrcAcc := crcUpdate s.cfg.crc s.txCrcAcc b } else s

/-- The last byte ends the frame, any other advances `tx_idx` (R79). -/
def State.advanceTx (s : State) : State :=
  if s.txIdx.toNat = 5 + s.txLen.toNat then { s with txBusy := false, txDone := true, txIdx := 0 }
  else { s with txIdx := s.txIdx + 1 }

/-- The emission of one wire byte (R79). -/
def State.emitByte (s : State) : State := (s.feedTxCrc s.txWireByte |>.txPush s.txWireByte).advanceTx

/-- TX emit step (R79), enabled exactly when `tx_busy = 1` and the environment is ready (the stimulus says it is). -/
def execTxEmit (s : State) : Result := if s.txBusy then .next s.emitByte else .next s

end Sys2Proof.Machine
end

