-- ==== Sys2Proof/Machine/HostBus.lean ====
section
/-! DEFINITION. The host's accesses to the register window (43_host_bus.md): writes, ignored writes, reads, and the accesses R26
does not admit. -/
namespace Sys2Proof.Machine

/-! ## Writes -/

/-- Write to CMD (R82): the command its bits [3:0] select, in the write's own step. -/
def execWrCmd (v : Word) (s : State) : Result :=
  match (commandOp v).toNat with
  | 0 => execNop s
  | 1 => execRecv s
  | 2 => execSend s
  | 3 => execCrcInit s
  | 4 => execCrcUpdate (commandData v) s
  | 5 => execReservedOp5 s
  | 6 | 7 => execReservedOp6to7 (commandOp v) s
  | _ => execReservedOp8toF (commandOp v) s

/-- Write to STATUS, write-1-to-clear (R85). -/
def execWrStatus (v : Word) (s : State) : Result := .next (s.clearStatus v)

/-- Write to TX_CFG (R86): ignored while `tx_busy = 1`. -/
def execWrTxCfg (v : Word) (s : State) : Result :=
  if s.txBusy then .next s else .next { s with txSeq := txCfgSeq v, txLen := txCfgLen v }

/-- 8-bit write to TX_BUF (R87): ignored while `tx_busy = 1`. -/
def execWrbTxBuf (i : Byte) (b : Byte) (s : State) : Result :=
  if s.txBusy then .next s else .next (s.storeTxByte i.toNat b)

/-- 32-bit write to TX_BUF (R87): ignored while `tx_busy = 1`. -/
def execWrTxBuf (k : BitVec 6) (v : Word) (s : State) : Result :=
  if s.txBusy then .next s else .next (s.storeTxWord (wordByteIndex k).toNat v)

/-- Write to RX_INFO: ignored (R88). -/
def execWrRxInfo (_v : Word) (s : State) : Result := .next s

/-- Write to RX_CRC: ignored (R88). -/
def execWrRxCrc (_v : Word) (s : State) : Result := .next s

/-- Write to RX_COUNT: ignored (R88). -/
def execWrRxCount (_v : Word) (s : State) : Result := .next s

/-- Write to CRC_VALUE: ignored (R88). -/
def execWrCrcValue (_v : Word) (s : State) : Result := .next s

/-- Write to RX_BUF, of either width: ignored (R88). -/
def execWrRxBuf (_w : BufWidth) (_i : Byte) (_v : Word) (s : State) : Result := .next s

/-- Write to a reserved offset: ignored (R88). -/
def execWrReserved (_a : Offset) (_v : Word) (s : State) : Result := .next s

/-! ## Reads -/

/-- Read of CMD: 0 (R89). -/
def execRdCmd (s : State) : Result := .next (s.hostReads 0)

/-- Read of STATUS (R89). -/
def execRdStatus (s : State) : Result := .next (s.hostReads s.statusWord)

/-- Read of RX_INFO (R89). -/
def execRdRxInfo (s : State) : Result := .next (s.hostReads s.rxInfoWord)

/-- Read of RX_CRC (R89). -/
def execRdRxCrc (s : State) : Result := .next (s.hostReads s.rxCrcWord)

/-- Read of RX_COUNT (R89). -/
def execRdRxCount (s : State) : Result := .next (s.hostReads s.rxCountWord)

/-- Read of TX_CFG (R89). -/
def execRdTxCfg (s : State) : Result := .next (s.hostReads s.txCfgWord)

/-- Read of CRC_VALUE (R57, R89). -/
def execRdCrcValue (s : State) : Result := .next (s.hostReads s.crcValueWord)

/-- Read of a reserved offset: 0 (R89). -/
def execRdReserved (_a : Offset) (s : State) : Result := .next (s.hostReads 0)

/-- Read of RX_BUF, of either width (R90). -/
def execRdRxBuf (w : BufWidth) (i : Byte) (s : State) : Result := .next (s.hostReads (readBuffer s.rxByte w i.toNat))

/-- Read of TX_BUF, of either width, also while `tx_busy = 1` (R90). -/
def execRdTxBuf (w : BufWidth) (i : Byte) (s : State) : Result := .next (s.hostReads (readBuffer s.txByte w i.toNat))

/-! ## Illegal accesses -/

/-- An access R26 does not admit: bus error, no state changes (R91, R94). -/
def execIllegalAccess (a : BusAccess) (_s : State) : Result := raiseBusError a.addr

end Sys2Proof.Machine
end

