-- ==== Sys2Proof/Machine/Dispatch.lean ====
section
/-! DEFINITION. One arm per row of the opcode table. -/
namespace Sys2Proof.Machine

def exec (i : Instr) (s : State) : Host.Outcome State Fault Refusal :=
  match i with
  -- command words
  | .nop => Sys2Proof.Machine.execNop s
  | .recv => Sys2Proof.Machine.execRecv s
  | .send => Sys2Proof.Machine.execSend s
  | .crcInit => Sys2Proof.Machine.execCrcInit s
  | .crcUpdate b => Sys2Proof.Machine.execCrcUpdate b s
  | .reservedOp5 => Sys2Proof.Machine.execReservedOp5 s
  | .reservedOp6to7 op => Sys2Proof.Machine.execReservedOp6to7 op s
  | .reservedOp8toF op => Sys2Proof.Machine.execReservedOp8toF op s
  -- wire bytes consumed by an RX step
  | .rxStart => Sys2Proof.Machine.execRxStart s
  | .rxWait d => Sys2Proof.Machine.execRxWait d s
  | .rxSeq d => Sys2Proof.Machine.execRxSeq d s
  | .rxLenLo d => Sys2Proof.Machine.execRxLenLo d s
  | .rxLenHi d => Sys2Proof.Machine.execRxLenHi d s
  | .rxPayload d => Sys2Proof.Machine.execRxPayload d s
  | .rxCrcLo d => Sys2Proof.Machine.execRxCrcLo d s
  | .rxCrcHi d => Sys2Proof.Machine.execRxCrcHi d s
  -- the wire byte produced by a TX step
  | .txEmit => Sys2Proof.Machine.execTxEmit s
  -- environment events
  | .envTick => Sys2Proof.Machine.execEnvTick s
  | .envTimeout => Sys2Proof.Machine.execEnvTimeout s
  | .envResetRx => Sys2Proof.Machine.execEnvResetRx s
  | .envResetTx => Sys2Proof.Machine.execEnvResetTx s
  -- bus writes
  | .wrCmd v => Sys2Proof.Machine.execWrCmd v s
  | .wrStatus v => Sys2Proof.Machine.execWrStatus v s
  | .wrTxCfg v => Sys2Proof.Machine.execWrTxCfg v s
  | .wrbTxBuf k b => Sys2Proof.Machine.execWrbTxBuf k b s
  | .wrTxBuf k v => Sys2Proof.Machine.execWrTxBuf k v s
  | .wrRxInfo v => Sys2Proof.Machine.execWrRxInfo v s
  | .wrRxCrc v => Sys2Proof.Machine.execWrRxCrc v s
  | .wrRxCount v => Sys2Proof.Machine.execWrRxCount v s
  | .wrCrcValue v => Sys2Proof.Machine.execWrCrcValue v s
  | .wrRxBuf w k v => Sys2Proof.Machine.execWrRxBuf w k v s
  | .wrReserved a v => Sys2Proof.Machine.execWrReserved a v s
  -- bus reads
  | .rdCmd => Sys2Proof.Machine.execRdCmd s
  | .rdStatus => Sys2Proof.Machine.execRdStatus s
  | .rdRxInfo => Sys2Proof.Machine.execRdRxInfo s
  | .rdRxCrc => Sys2Proof.Machine.execRdRxCrc s
  | .rdRxCount => Sys2Proof.Machine.execRdRxCount s
  | .rdTxCfg => Sys2Proof.Machine.execRdTxCfg s
  | .rdCrcValue => Sys2Proof.Machine.execRdCrcValue s
  | .rdReserved a => Sys2Proof.Machine.execRdReserved a s
  | .rdRxBuf w k => Sys2Proof.Machine.execRdRxBuf w k s
  | .rdTxBuf w k => Sys2Proof.Machine.execRdTxBuf w k s
  | .illegalAccess a => Sys2Proof.Machine.execIllegalAccess a s

end Sys2Proof.Machine
end

