-- ==== Sys2Proof/Machine/Agents.lean ====
section
/-! DEFINITION. The agents' steps (R11): what one stimulus makes the block do, how the next stimulus is taken, and how a table
word is placed so that the next step runs it. -/
namespace Sys2Proof.Machine

/-- Two operations of one atomic step, the second on what the first leaves. -/
def chain (r : Result) (f : State → Result) : Result :=
  match r with
  | .next s => f s
  | .fault e => .fault e
  | .refused e => .refused e

/-- The block takes an encoded operation: it is decoded in the present FSM state and run. -/
def runEncoded (e : Encoded) (s : State) : Result := exec (decode s.cfg.startByte s.rxState e) s

/-- An RX byte step (R62): enabled exactly when `rx_busy = 1` and `rx_queue` is not empty; it takes the head byte (`RxPop`)
and runs the rule of that byte. Not enabled, it is no step: nothing changes (log 7). -/
def rxEngineStep (s : State) : Result :=
  match s.rxBusy, s.rxQueue with
  | true, b :: q => runEncoded (.wireIn b) { s with rxQueue := q }
  | _, _ => .next s

/-- Channel reset: one environment event, the RX side (R75) and the TX side (R80) in one step (log 11). -/
def channelReset (s : State) : Result :=
  chain (runEncoded (.event .channelResetRx) s) (runEncoded (.event .channelResetTx))

/-- What one stimulus makes happen, in one atomic step (R11). -/
def perform (st : Stimulus) (s : State) : Result :=
  match st with
  | .command w => runEncoded (.commandWord w) s
  | .bus a => runEncoded (.access a) s
  | .rxStep => rxEngineStep s
  | .txReady => runEncoded .wireOut s
  | .tick => runEncoded (.event .tick) s
  | .timeout => runEncoded (.event .timeout) s
  | .channelReset => channelReset s
  | .rxArrive bytes => .next (s.rxArrive bytes)
  | .blockReset => .next s.blockReset

/-- The next step: the first pending stimulus is taken and performed; with none pending nothing happens (log 1). -/
def runNext (s : State) : Result :=
  match s.pending with
  | [] => .next s
  | st :: rest => perform st { s with pending := rest }

/-- The stimulus goes before all others. -/
def State.pushStimulus (s : State) (st : Stimulus) : State := { s with pending := st :: s.pending }

/-- The state in which the next step takes this operation. A wire byte is put at the head of `rx_queue`, and a block that is not
armed is armed as by RECV, or it would not take the byte (log 10). -/
def State.placeEncoded (s : State) : Encoded → State
  | .commandWord w => s.pushStimulus (.command w)
  | .access a => s.pushStimulus (.bus a)
  | .wireIn b =>
    let armed := if s.rxBusy then s else s.armReceive
    { armed with rxQueue := b :: armed.rxQueue }.pushStimulus .rxStep
  | .wireOut => s.pushStimulus .txReady
  | .event .tick => s.pushStimulus .tick
  | .event .timeout => s.pushStimulus .timeout
  | .event .channelResetRx => s.pushStimulus .channelReset
  | .event .channelResetTx => s.pushStimulus .channelReset

/-- A table word of `nbits` bits placed as the next operation (log 10); no operation for a word no row has. -/
def State.placeTableWord (s : State) (nbits w : Nat) : State :=
  match encodedOfBytes (tableBytes nbits w) with
  | .ok e => s.placeEncoded e
  | .error _ => s

end Sys2Proof.Machine
end

