-- ==== Sys2Proof/Machine/Step.lean ====
section
/-! DEFINITION. One atomic step of the machine (R11), and the placing of a table word (log 10). -/
namespace Sys2Proof.Machine

/-- One step: the next agent's atomic step (R11, R31). -/
def step (s : State) : Host.Outcome State Fault Refusal := runNext s

/-- `s` with the operation of a table word where the next step takes it. -/
def State.withFetchWord (s : State) (nbits w : Nat) : State := s.placeTableWord nbits w

end Sys2Proof.Machine
end

