-- ==== Sys2Proof/Machine/Asm.lean ====
section
/-! DEFINITION. The host-side assembly of R50 as lists of stimuli, runs of such lists, and the order of events inside one clock
(R99). A host program runs line by line, `poll` and `env.run` loop until their conditions hold, and other agents may step before any turn. -/
namespace Sys2Proof.Machine

/-- The lines of R50's assembly. -/
inductive Asm where
  | wr (off : Offset) (v : Word)
  | wrb (off : Offset) (b : Byte)
  | rd (off : Offset)
  | rdb (off : Offset)
  | nop
  | recv
  | send
  | crcInit
  | crcUpdate (b : Byte)
  | envIn (bytes : List Byte)
  | envTick (n : Nat)
  | envReset
  | envRun
  | poll (off : Offset) (mask v : Word)
  | setcfg (seq : Byte) (len : Half)
  | fill (bytes : List Byte)
  | crcBytes (bytes : List Byte)
  | w1c (m : Word)
  deriving DecidableEq, Repr

/-- The word of `crc.update B`: `0x00000004 OR (B << 8)` (R50). -/
def crcUpdateWord (b : Byte) : Word := 0x00000004 ||| (b.setWidth 32 <<< 8)

/-- The data word of `setcfg S, N`: `(N << 16) OR S` (R50). -/
def txCfgData (seq : Byte) (len : Half) : Word := (len.setWidth 32 <<< 16) ||| seq.setWidth 32

/-- `wrb 0x200 + k, Bk` for the bytes from index `k` on (R50). -/
def fillFrom : Nat → List Byte → List Stimulus
  | _, [] => []
  | k, b :: bs => .bus (.write 8 (BitVec.ofNat 12 (0x200 + k)) (b.setWidth 32)) :: fillFrom (k + 1) bs

/-- The engine step `env.run` takes next: an RX step while one is enabled (R62), else an emit step while a frame is in flight (R79,
the environment being ready), else none. The engines do not disturb each other (R34), so their order does not matter. -/
def nextEngineStep (s : State) : Option Stimulus :=
  if s.rxBusy && !s.rxQueue.isEmpty then some .rxStep else if s.txBusy then some .txReady else none

/-- What a line expands to, from the state in which it starts (R50). A `poll` expands to its read and
`env.run` to its next step; both are repeated by `AsmRun.turn`. -/
def Asm.expand (s : State) : Asm → List Stimulus
  | .wr off v => [.bus (.write 32 off v)]
  | .wrb off b => [.bus (.write 8 off (b.setWidth 32))]
  | .rd off => [.bus (.read 32 off)]
  | .rdb off => [.bus (.read 8 off)]
  | .nop => [.command 0x00000000]
  | .recv => [.command 0x00000001]
  | .send => [.command 0x00000002]
  | .crcInit => [.command 0x00000003]
  | .crcUpdate b => [.command (crcUpdateWord b)]
  | .envIn bytes => [.rxArrive bytes]
  | .envTick n => List.replicate n .tick
  | .envReset => [.channelReset]
  | .envRun => (nextEngineStep s).toList
  | .poll off _ _ => [.bus (.read 32 off)]
  | .setcfg seq len => [.bus (.write 32 offTxCfg (txCfgData seq len))]
  | .fill bytes => fillFrom 0 bytes
  | .crcBytes bytes => bytes.map (fun b => .command (crcUpdateWord b))
  | .w1c m => [.bus (.write 32 offStatus m)]

/-- `poll OFF, MASK, V` reads again while `(a AND MASK) != V` (R50). -/
def pollAgain (s : State) (mask v : Word) : Bool := (s.hostA &&& mask) != v

/-- The stimuli one after the other, each one step. -/
def performAll : List Stimulus → State → Result
  | [], s => .next s
  | st :: rest, s => chain (perform st s) (performAll rest)

/-- The lines left after a `poll` has read: the same `poll` again while its condition fails (`goto L`), else the lines after it
(R50). -/
def linesAfterPoll (off : Offset) (mask v : Word) (rest : List Asm) (s : State) : List Asm :=
  if pollAgain s mask v then .poll off mask v :: rest else rest

/-- A host program under way: the stimuli left of the line begun, the lines not yet begun, and the machine. -/
structure AsmRun where
  line    : List Stimulus
  program : List Asm
  machine : State
  deriving DecidableEq, Repr

/-- A program before its first line. -/
def AsmRun.start (program : List Asm) (s : State) : AsmRun := { line := [], program := program, machine := s }

/-- Nothing is left to run. -/
def AsmRun.finished (r : AsmRun) : Bool := r.line.isEmpty && r.program.isEmpty

/-- Going on with the program in the state an operation leaves. -/
def continueAsm (r : Result) (f : State → AsmRun) : Host.Outcome AsmRun Fault Refusal :=
  match r with
  | .next s => .next (f s)
  | .fault e => .fault e
  | .refused e => .refused e

/-- The lines left after `env.run` was begun in `s`: itself while an engine step was enabled, else the lines after it (R50: "until
neither is enabled"). -/
def linesAfterEnvRun (rest : List Asm) (s : State) : List Asm :=
  if (nextEngineStep s).isSome then .envRun :: rest else rest

/-- One turn of a program: the next stimulus of the line begun; else a `poll` reads and goes on or back; else the next line is
begun, and an `env.run` stays among the lines left while an engine step is enabled. A finished program stays. -/
def AsmRun.turn (r : AsmRun) : Host.Outcome AsmRun Fault Refusal :=
  match r.line, r.program with
  | st :: line, program => continueAsm (perform st r.machine) (fun s => ⟨line, program, s⟩)
  | [], [] => .next r
  | [], .poll off mask v :: rest =>
    continueAsm (performAll ((Asm.poll off mask v).expand r.machine) r.machine)
      (fun s => ⟨[], linesAfterPoll off mask v rest s, s⟩)
  | [], .envRun :: rest => .next ⟨Asm.envRun.expand r.machine, linesAfterEnvRun rest r.machine, r.machine⟩
  | [], line :: rest => .next ⟨line.expand r.machine, rest, r.machine⟩

/-- The other agents' steps, and then one turn of the host (R31 (c): engine steps may fall between any two host accesses). -/
def AsmRun.turnAfter (others : List Stimulus) (r : AsmRun) : Host.Outcome AsmRun Fault Refusal :=
  match performAll others r.machine with
  | .next s => AsmRun.turn { r with machine := s }
  | .fault e => .fault e
  | .refused e => .refused e

/-- A run of a program: one turn of the host for each entry, after the other agents' steps the entry lists. A `poll` whose condition
never holds takes any number of turns. -/
def runAsm : List (List Stimulus) → AsmRun → Host.Outcome AsmRun Fault Refusal
  | [], r => .next r
  | others :: later, r =>
    match r.turnAfter others with
    | .next r' => runAsm later r'
    | .fault e => .fault e
    | .refused e => .refused e

/-- The events a cycle-based implementation may see in one clock (R99). -/
structure ClockEvents where
  hostAccess   : Option BusAccess
  channelReset : Bool
  rxByte       : Bool
  tick         : Bool
  txEmit       : Bool
  deriving DecidableEq, Repr

/-- The order in which it takes them: host access, channel reset, RX byte, tick, TX emit (R99). DESIGN CHOICE (log 20): the RX byte
event is the consumption of a byte already queued; the arrival of a byte is a stimulus of its own, before or after the clock's. -/
def ClockEvents.schedule (c : ClockEvents) : List Stimulus :=
  (match c.hostAccess with
    | some a => [.bus a]
    | none => [])
    ++ (if c.channelReset then [.channelReset] else []) ++ (if c.rxByte then [.rxStep] else [])
    ++ (if c.tick then [.tick] else []) ++ (if c.txEmit then [.txReady] else [])

end Sys2Proof.Machine
end

