-- ==== Sys2Proof/Machine/Platform.lean ====
section
/-! DEFINITION. A platform of `N_ENDPOINTS` instances (R105): each has its own state, channel and window at `BASE[i]` (R22,
R29), and they share nothing (log 16). -/
namespace Sys2Proof.Machine

/-- `N_ENDPOINTS` instances and their window bases `BASE[i]` (R5, R105). -/
structure Platform where
  endpoints : List State
  bases     : List Nat
  deriving DecidableEq, Repr

/-- "All instances start at reset together" (R105), with the windows at the given bases. Each counts its draws of unspecified bytes
from a start of its own, or two of them would draw the same bytes (log 16). -/
def Platform.reset (bases : List Nat) : Platform :=
  { endpoints := (List.range bases.length).map (fun i => { State.reset with resets := i * 2 ^ 64 }), bases := bases }

/-- One step of instance `i`; of an instance that does not exist there is no step. DESIGN CHOICE (log 17): a bus error on one
instance's window is the fault of the platform's step, so it ends the run of every instance. -/
def Platform.stepAt (p : Platform) (i : Nat) : Host.Outcome Platform Fault Refusal :=
  match p.endpoints[i]? with
  | none => .next p
  | some s =>
    match step s with
    | .next t => .next { p with endpoints := p.endpoints.set i t }
    | .fault e => .fault e
    | .refused e => .refused e

/-- The instance and the offset behind a bus address, counting the windows from `i` (R22: 12-bit offsets at `BASE[i]`). -/
def windowOf (addr : Nat) : Nat → List Nat → Option (Nat × Offset)
  | _, [] => none
  | i, b :: bs => if b ≤ addr ∧ addr < b + 0x1000 then some (i, BitVec.ofNat 12 (addr - b)) else windowOf addr (i + 1) bs

/-- The instance and the offset behind a bus address, if any window holds it. -/
def Platform.route (p : Platform) (addr : Nat) : Option (Nat × Offset) := windowOf addr 0 p.bases

/-- A stimulus given to instance `i`, before all others it has pending. -/
def Platform.deliver (p : Platform) (i : Nat) (st : Stimulus) : Platform :=
  match p.endpoints[i]? with
  | none => p
  | some s => { p with endpoints := p.endpoints.set i (s.pushStimulus st) }

/-- A host write at a bus address, given to the instance whose window holds it. -/
def Platform.write (p : Platform) (width addr : Nat) (v : Word) : Platform :=
  match p.route addr with
  | some (i, off) => p.deliver i (.bus (.write width off v))
  | none => p

/-- A host read at a bus address, given to the instance whose window holds it. -/
def Platform.read (p : Platform) (width addr : Nat) : Platform :=
  match p.route addr with
  | some (i, off) => p.deliver i (.bus (.read width off))
  | none => p

/-- Block reset of all instances together (R105, R108). -/
def Platform.resetAll (p : Platform) : Platform := { p with endpoints := p.endpoints.map State.blockReset }

end Sys2Proof.Machine
end

