-- ==== Sys2Proof/Machine/Wire.lean ====
section
/-! DEFINITION. The wire frame (R45, R46), as the bytes a correct frame has. The engines do not use it: statements compare what
they send and accept with it. -/
namespace Sys2Proof

/-- The bytes the checksum covers, wire bytes 1 to 3+L (R46). -/
def coveredBytes (seq : Byte) (payload : List Byte) : List Byte :=
  [seq, lowByte (BitVec.ofNat 16 payload.length), highByte (BitVec.ofNat 16 payload.length)] ++ payload

/-- The frame with sequence `seq` and the given payload, `6 + L` bytes (R45). -/
def wireFrame (c : Config) (seq : Byte) (payload : List Byte) : List Byte :=
  [c.startByte] ++ coveredBytes seq payload
    ++ [lowByte (crc16 c.crc (coveredBytes seq payload)), highByte (crc16 c.crc (coveredBytes seq payload))]

end Sys2Proof
end

