-- ==== Sys2Proof/Safety.lean ====
section
/-! DEFINITION. What holds in every state of a run (R15, R17 and what follows from the other rules), and what a safe outcome
is. -/
namespace Sys2Proof.Machine

/-- The states of the FSM before any payload byte of the frame can have come. -/
def RxState.beforePayload : RxState → Bool
  | .seq | .lenLo | .lenHi => true
  | .waitStart | .payload | .crcLo | .crcHi => false

/-- The invariant of a run. -/
structure State.Inv (s : State) : Prop where
  /-- R15 (a) -/
  idle_waits : s.rxBusy = false → s.rxState = .waitStart
  /-- R15 (b) -/
  payload_bounds : s.rxState = .payload →
    1 ≤ s.rxLen.toNat ∧ s.rxLen.toNat ≤ s.cfg.maxPayload ∧ s.rxCnt.toNat < s.rxLen.toNat
  /-- R15 (c) -/
  crc_bounds : s.rxState = .crcLo ∨ s.rxState = .crcHi →
    s.rxLen.toNat ≤ s.cfg.maxPayload ∧ s.rxCnt.toNat = s.rxLen.toNat
  /-- R15 (d) -/
  armed_no_result : s.rxBusy = true → s.rxDone = false ∧ s.rxResult = .none
  /-- R15 (e) -/
  count_bound : s.rxCnt.toNat ≤ s.cfg.maxPayload
  /-- from R59: a header has no payload byte yet -/
  header_count : RxState.beforePayload s.rxState = true → s.rxCnt = 0
  /-- R17 (a) -/
  tx_idle_index : s.txBusy = false → s.txIdx = 0
  /-- R17 (b) -/
  tx_busy_bounds : s.txBusy = true → s.txLen.toNat ≤ s.cfg.maxPayload ∧ s.txIdx.toNat ≤ s.txLen.toNat + 5
  /-- R14, R42: a posted result has a name -/
  done_has_result : s.rxDone = true → s.rxResult ≠ .none
  /-- from R78, R79: an unfinished frame is not done -/
  sending_not_done : s.txBusy = true → s.txDone = false
  /-- R93, R85: the cause is there exactly while the flag is -/
  cause_with_error : s.cmdErr = false ↔ s.cmdCause = .none
  /-- R60, R61, R72: an armed receive has ticks left -/
  timer_running : s.rxBusy = true → 1 ≤ s.rxTimer.toNat ∧ s.rxTimer.toNat ≤ max s.cfg.tHdr s.cfg.tPay
  /-- the parameters fit the timer -/
  cfg_wf : s.cfg.wf = true
  /-- the buffers are in canonical form, and their indexes exist -/
  rx_buf_wf : Memory.wf s.rxBuf = true
  rx_buf_below : Memory.below s.cfg.maxPayload s.rxBuf = true
  tx_buf_wf : Memory.wf s.txBuf = true
  tx_buf_below : Memory.below s.cfg.maxPayload s.txBuf = true

/-- `s` with the TX engine's state, the host's state and the rejection flags of `u`: all an RX step may not depend on (R13, R34). -/
def State.withTxSide (s u : State) : State :=
  { s with
    txBusy := u.txBusy, txDone := u.txDone, txErr := u.txErr, txSeq := u.txSeq, txLen := u.txLen, txBuf := u.txBuf
    txIdx := u.txIdx, txCrcAcc := u.txCrcAcc, txOut := u.txOut, crcAcc := u.crcAcc, cmdErr := u.cmdErr
    cmdCause := u.cmdCause, hostA := u.hostA }

/-- `s` with the RX engine's state, the host's state and the rejection flags of `u`: all a TX step may not depend on (R13, R34). -/
def State.withRxSide (s u : State) : State :=
  { s with
    rxState := u.rxState, rxBusy := u.rxBusy, rxDone := u.rxDone, rxResult := u.rxResult, rxSeq := u.rxSeq
    rxLen := u.rxLen, rxCnt := u.rxCnt, rxCrcAcc := u.rxCrcAcc, rxCrcRecv := u.rxCrcRecv, rxCrcCalc := u.rxCrcCalc
    rxBuf := u.rxBuf, rxTimer := u.rxTimer, rxQueue := u.rxQueue, health := u.health, crcAcc := u.crcAcc
    cmdErr := u.cmdErr, cmdCause := u.cmdCause, hostA := u.hostA }

/-- A step is safe unless the host's access is answered with a bus error (R94) or it has no meaning. -/
def SafeOutcome (r : Result) : Prop := ∃ t, r = .next t

end Sys2Proof.Machine
end

