-- ==== Sys2Proof/Certificates/Slice0/Obligations.lean ====
section
/-! DEFINITION. The statements for the provers. R<n> are the rules of spec/, "log n" is notes/assumptions/n.md.
A reload value stands as the 16-bit timer holds it; for one of more than 16 bits (Config.wf fails) that is the model's (log 6). -/
open Sys2Proof Sys2Proof.Machine

/-! ## Encoding -/

/-- R37 to R50, R23, R26: decoding the encoding of a well-formed operation, in the FSM state its row names, gives it back. -/
def Obligations.DecodeOfEncodeIsTheOperation : Prop :=
  ∀ (start : Byte) (st : RxState) (i : Instr), i.wf start = true →
    decode start (i.rxContext.getD st) (encode start i) = i

/-- R23, R26, R37, R39: encoding what a bus access decodes to gives the access back (an 8-bit write has 8 bits of data), and
encoding what a command word decodes to keeps its operation and OP. -/
def Obligations.EncodeOfDecodeKeepsTheEncoding : Prop :=
  (∀ (start : Byte) (st : RxState) (a : BusAccess),
    (∀ addr data, a = .write 8 addr data → data.toNat < 0x100) →
    encode start (decode start st (.access a)) = .access a) ∧
  (∀ (start : Byte) (st : RxState) (w : Word), ∃ w',
    encode start (decode start st (.commandWord w)) = .commandWord w' ∧
    commandOp w' = commandOp w ∧ decode start st (.commandWord w') = decode start st (.commandWord w))

/-- R38, R49, R23, R26 on words written out from their tables. -/
def Obligations.WordsOfTheTablesDecode : Prop :=
  decode 0xAE .waitStart (.commandWord 0x00000001) = .recv ∧
  decode 0xAE .waitStart (.commandWord 0xABCD4114) = .crcUpdate 0x41 ∧
  decode 0xAE .waitStart (.commandWord 0x0000000F) = .reservedOp8toF 0xF ∧
  decode 0xAE .payload (.wireIn 0xAE) = .rxStart ∧
  decode 0xAE .lenHi (.wireIn 0x01) = .rxLenHi 0x01 ∧
  decode 0xAE .waitStart (.access (.write 32 0x014 0x00020007)) = .wrTxCfg 0x00020007 ∧
  decode 0xAE .waitStart (.access (.write 8 0x2FF 0x55)) = .wrbTxBuf 0xFF 0x55 ∧
  decode 0xAE .waitStart (.access (.read 32 0xFFC)) = .rdReserved 0xFFC ∧
  decode 0xAE .waitStart (.access (.read 32 0x101)) = .illegalAccess (.read 32 0x101)

/-! ## The step -/

/-- R11, R62, R75, R80: a step takes the first pending stimulus and runs the operation it decodes to; an RX step that is not enabled is
no step, and a channel reset runs both its sides. The list of stimuli is the model's own (log 1, 7, 11). -/
def Obligations.StepRunsTheDecodedOperation : Prop :=
  ∀ (s : State) (rest : List Stimulus),
    (∀ w, s.pending = .command w :: rest →
      step s = exec (decode s.cfg.startByte s.rxState (.commandWord w)) { s with pending := rest }) ∧
    (∀ a, s.pending = .bus a :: rest →
      step s = exec (decode s.cfg.startByte s.rxState (.access a)) { s with pending := rest }) ∧
    (∀ b q, s.pending = .rxStep :: rest → s.rxBusy = true → s.rxQueue = b :: q →
      step s = exec (decode s.cfg.startByte s.rxState (.wireIn b)) { s with pending := rest, rxQueue := q }) ∧
    (s.pending = .rxStep :: rest → s.rxBusy = false ∨ s.rxQueue = [] → step s = .next { s with pending := rest }) ∧
    (s.pending = .txReady :: rest → step s = exec .txEmit { s with pending := rest }) ∧
    (s.pending = .tick :: rest → step s = exec .envTick { s with pending := rest }) ∧
    (s.pending = .timeout :: rest → step s = exec .envTimeout { s with pending := rest }) ∧
    (∀ m, s.pending = .channelReset :: rest → exec .envResetRx { s with pending := rest } = .next m →
      step s = exec .envResetTx m) ∧
    (∀ bytes, s.pending = .rxArrive bytes :: rest →
      step s = .next { s with pending := rest, rxQueue := s.rxQueue ++ bytes })

/-- R5: no step changes the parameters (that State carries them is log 2). -/
def Obligations.StepKeepsTheParameters : Prop :=
  ∀ s t : State, step s = .next t → t.cfg = s.cfg

/-- R15, R17: the invariant holds right after reset. -/
def Obligations.InvariantHoldsAtReset : Prop := State.Inv State.reset

/-- R15, R17 (with R14, R42, R59, R60, R78, R85, R93): every step keeps the invariant. -/
def Obligations.StepKeepsTheInvariant : Prop :=
  ∀ s t : State, s.Inv → step s = .next t → t.Inv

/-! ## Whole frames -/

/-- R76: an armed engine that consumes, from WAIT_START, bytes that are not START_BYTE and then a frame with no START_BYTE after its
first byte, posts FRAME with the frame's sequence, length and payload. -/
def Obligations.FrameIsReceivedAsSent : Prop :=
  ∀ (s : State) (noise payload rest : List Byte) (seq : Byte) (later : List Stimulus),
    s.rxBusy = true → s.rxState = .waitStart → payload.length ≤ s.cfg.maxPayload →
    (∀ b ∈ noise, b ≠ s.cfg.startByte) →
    (∀ b ∈ (wireFrame s.cfg seq payload).tail, b ≠ s.cfg.startByte) →
    s.rxQueue = noise ++ wireFrame s.cfg seq payload ++ rest →
    s.pending = List.replicate (noise.length + (6 + payload.length)) .rxStep ++ later →
    ∃ t, core.run (noise.length + (6 + payload.length)) s = .next t ∧
      t.rxResult = .frame ∧ t.rxDone = true ∧ t.rxBusy = false ∧ t.rxState = .waitStart ∧ t.health = .ok ∧
      t.rxSeq = seq ∧ t.rxLen = BitVec.ofNat 16 payload.length ∧ t.rxCrcRecv = t.rxCrcCalc ∧
      t.rxCnt.toNat = payload.length ∧ (∀ k b, payload[k]? = some b → t.rxByte k = b) ∧
      t.rxQueue = rest ∧ t.pending = later

/-- R45, R46, R78, R79: after SEND with a legal length, as many emit steps as the frame has bytes put exactly that frame on the wire, and
leave the engine done. -/
def Obligations.SendEmitsTheFrame : Prop :=
  ∀ (s : State) (later : List Stimulus), s.txBusy = false → s.txLen.toNat ≤ s.cfg.maxPayload →
    s.pending = .command 0x00000002 :: List.replicate (6 + s.txLen.toNat) .txReady ++ later →
    ∃ t, core.run (7 + s.txLen.toNat) s = .next t ∧
      t.txOut = s.txOut ++ wireFrame s.cfg s.txSeq ((List.range s.txLen.toNat).map s.txByte) ∧
      t = { s with
        pending := later, txBusy := false, txDone := true, txIdx := 0, txOut := t.txOut, txCrcAcc := t.txCrcAcc }

/-- R76 with R79 (90_conflicts.md C2): SEND puts exactly the frame on the wire, and that frame looped back is received, when no
START_BYTE stands after its first byte. -/
def Obligations.LoopbackDeliversThePayload : Prop :=
  ∀ (s : State) (frame : List Byte) (later : List Stimulus),
    frame = wireFrame s.cfg s.txSeq ((List.range s.txLen.toNat).map s.txByte) →
    s.txBusy = false → s.rxBusy = false → s.rxState = .waitStart → s.rxQueue = [] →
    s.txLen.toNat ≤ s.cfg.maxPayload → (∀ b ∈ frame.tail, b ≠ s.cfg.startByte) →
    s.pending = .command 0x00000002 :: List.replicate (6 + s.txLen.toNat) .txReady
      ++ [.rxArrive frame, .command 0x00000001] ++ List.replicate (6 + s.txLen.toNat) .rxStep ++ later →
    ∃ t, core.run (15 + 2 * s.txLen.toNat) s = .next t ∧ t.txOut = s.txOut ++ frame ∧ t.rxResult = .frame ∧ t.rxSeq = s.txSeq ∧ t.rxLen = s.txLen ∧
      (∀ k, k < s.txLen.toNat → t.rxByte k = s.txByte k) ∧ t.txDone = true ∧ t.rxDone = true

/-- R77 (a): one wrong byte in the sequence, the payload or the checksum of a frame, with no START_BYTE after the first byte, ends in
CHECKSUM_ERROR, for every profile whose polynomial has the term 1. -/
def Obligations.OneWrongByteIsAChecksumError : Prop :=
  ∀ (s : State) (payload rest : List Byte) (seq wrong : Byte) (k : Nat) (later : List Stimulus),
    s.rxBusy = true → s.rxState = .waitStart → payload.length ≤ s.cfg.maxPayload →
    s.cfg.crc.poly.getLsbD 0 = true →
    k = 1 ∨ (4 ≤ k ∧ k ≤ 5 + payload.length) →
    (wireFrame s.cfg seq payload)[k]? ≠ some wrong →
    (∀ b ∈ ((wireFrame s.cfg seq payload).set k wrong).tail, b ≠ s.cfg.startByte) →
    s.rxQueue = (wireFrame s.cfg seq payload).set k wrong ++ rest →
    s.pending = List.replicate (6 + payload.length) .rxStep ++ later →
    ∃ t, core.run (6 + payload.length) s = .next t ∧ t.rxResult = .checksumError ∧ t.health = .fail ∧
      t.rxDone = true ∧ t.rxBusy = false ∧ t.rxCrcRecv ≠ t.rxCrcCalc ∧ t.rxQueue = rest

/-- R72, R73: an armed receive to which no byte is given counts down, and ends in TIMEOUT on exactly the tick its timer names; the
partial frame, `health` and the queue stay. -/
def Obligations.TimeoutComesOnTheLastTick : Prop :=
  ∀ (s : State) (n : Nat) (later : List Stimulus), s.rxBusy = true → 1 ≤ s.rxTimer.toNat →
    s.pending = List.replicate n .tick ++ later →
    (n < s.rxTimer.toNat →
      core.run n s = .next { s with pending := later, rxTimer := s.rxTimer - BitVec.ofNat 16 n }) ∧
    (n = s.rxTimer.toNat →
      core.run n s = .next { s with
        pending := later, rxResult := .timeout, rxDone := true, rxBusy := false, rxState := .waitStart, rxTimer := 0 })

/-! ## The CRC generator -/

/-- R55: CRC_INIT. Its word is any with OP = 3; it writes `crc_acc` and nothing else; CRC_VALUE then reads 0x0000FFFF under the default
profile. -/
def Obligations.CrcInitStartsAComputation : Prop :=
  (∀ w : Word, w.extractLsb' 0 4 = 3#4 → decodeCommand w = .crcInit) ∧
  (∀ s : State, exec .crcInit s = .next { s with crcAcc := s.cfg.crc.init }) ∧
  (∀ s : State, s.cfg.crc = CrcProfile.ccittFalse →
    exec .rdCrcValue { s with crcAcc := s.cfg.crc.init } =
      .next { s with crcAcc := s.cfg.crc.init, hostA := 0x0000FFFF })

/-- R56: CRC_UPDATE. Its word is any with OP = 4, its byte is bits [15:8]; it writes `crc_acc` and nothing else; the rule's corner
values hold under the default profile. -/
def Obligations.CrcUpdateFeedsOneByte : Prop :=
  (∀ w : Word, w.extractLsb' 0 4 = 4#4 → decodeCommand w = .crcUpdate (w.extractLsb' 8 8)) ∧
  (∀ (s : State) (b : Byte), exec (.crcUpdate b) s = .next { s with crcAcc := crcUpdate s.cfg.crc s.crcAcc b }) ∧
  crc16 CrcProfile.ccittFalse [0x00] = 0xE1F0 ∧ crc16 CrcProfile.ccittFalse [0xAE] = 0xB5D4 ∧
  crc16 CrcProfile.ccittFalse [0xFF, 0xFF] = 0x0000 ∧ crc16 CrcProfile.ccittFalse [0x41] = 0xB915

/-- R54: the check values of the four profiles. -/
def Obligations.CrcCheckValuesOfTheProfiles : Prop :=
  crc16 CrcProfile.ccittFalse [0x31, 0x32, 0x33, 0x34, 0x35, 0x36, 0x37, 0x38, 0x39] = 0x29B1 ∧
  crc16 CrcProfile.ccittFalse [] = 0xFFFF ∧ crc16 CrcProfile.ccittFalse [0x00] = 0xE1F0 ∧
  crc16 CrcProfile.xmodem [0x31, 0x32, 0x33, 0x34, 0x35, 0x36, 0x37, 0x38, 0x39] = 0x31C3 ∧
  crc16 CrcProfile.kermit [0x31, 0x32, 0x33, 0x34, 0x35, 0x36, 0x37, 0x38, 0x39] = 0x2189 ∧
  crc16 CrcProfile.x25 [0x31, 0x32, 0x33, 0x34, 0x35, 0x36, 0x37, 0x38, 0x39] = 0x906E

/-- R53 (a): under the default profile a message followed by its CRC, high byte first, has the CRC 0. -/
def Obligations.CrcAppendedHighByteFirstGivesZero : Prop :=
  ∀ m : List Byte, crc16 CrcProfile.ccittFalse
    (m ++ [highByte (crc16 CrcProfile.ccittFalse m), lowByte (crc16 CrcProfile.ccittFalse m)]) = 0x0000

/-- R53 (c): under the default profile, for messages of equal length, the CRC is linear up to the CRC of zeros. -/
def Obligations.CrcIsLinearOverMessages : Prop :=
  ∀ a b : List Byte, a.length = b.length →
    crc16 CrcProfile.ccittFalse a ^^^ crc16 CrcProfile.ccittFalse b
      ^^^ crc16 CrcProfile.ccittFalse (List.replicate a.length 0x00)
    = crc16 CrcProfile.ccittFalse (List.zipWith (fun x y => x ^^^ y) a b)

/-- R51, R77: two messages that differ in one byte have different CRCs, for every profile whose polynomial has the term 1. -/
def Obligations.CrcTellsMessagesApartInOneByte : Prop :=
  ∀ (p : CrcProfile) (before after : List Byte) (b b' : Byte), p.poly.getLsbD 0 = true → b ≠ b' →
    crc16 p (before ++ b :: after) ≠ crc16 p (before ++ b' :: after)

/-! ## Commands -/

/-- R83: a word whose bits [3:0] are 0 is NOP, and NOP leaves every state element unchanged. -/
def Obligations.NopChangesNothing : Prop :=
  (∀ w : Word, w.extractLsb' 0 4 = 0#4 → decodeCommand w = .nop) ∧ (∀ s : State, exec .nop s = .next s)

/-- R61: RECV. Its word is any with OP = 1; it is rejected with RX_BUSY while armed, and else arms a receive (the reload value is
R6's); STATUS then reads as in the rule's example.
DESIGN CHOICE (log 6): a reload value of more than 16 bits stands with its low 16 bits. -/
def Obligations.RecvArmsOrIsRejected : Prop :=
  (∀ w : Word, w.extractLsb' 0 4 = 1#4 → decodeCommand w = .recv) ∧
  (∃ t, exec .recv State.reset = .next t ∧ exec .rdStatus t = .next { t with hostA := 0x00000001 }) ∧
  ∀ s : State,
    (s.rxBusy = true → exec .recv s = .next { s with cmdErr := true, cmdCause := .rxBusy }) ∧
    (s.rxBusy = false → exec .recv s = .next { s with
      rxBusy := true, rxDone := false, rxResult := .none, rxTimer := BitVec.ofNat 16 s.cfg.tHdr })

/-- R78: SEND. Its word is any with OP = 2; it is rejected with TX_BUSY while a frame is in flight, else with TX_LENGTH for a length
above MAX_PAYLOAD, and else starts the emission. -/
def Obligations.SendStartsOrIsRejected : Prop :=
  (∀ w : Word, w.extractLsb' 0 4 = 2#4 → decodeCommand w = .send) ∧
  ∀ s : State,
    (s.txBusy = true → exec .send s = .next { s with cmdErr := true, cmdCause := .txBusy }) ∧
    (s.txBusy = false → s.cfg.maxPayload < s.txLen.toNat →
      exec .send s = .next { s with cmdErr := true, cmdCause := .txLength }) ∧
    (s.txBusy = false → s.txLen.toNat ≤ s.cfg.maxPayload →
      exec .send s = .next { s with txBusy := true, txDone := false, txIdx := 0, txCrcAcc := s.cfg.crc.init })

/-- R84: every OP from 0x5 to 0xF decodes to a reserved command, and a reserved command is rejected with RESERVED_OP and changes nothing
else. -/
def Obligations.ReservedCommandsAreRejected : Prop :=
  (∀ (w : Word) (s : State), 5 ≤ (w.extractLsb' 0 4).toNat →
    exec (decodeCommand w) s = .next { s with cmdErr := true, cmdCause := .reservedOp }) ∧
  (∀ s : State, exec .reservedOp5 s = .next { s with cmdErr := true, cmdCause := .reservedOp }) ∧
  (∀ (op : BitVec 4) (s : State), exec (.reservedOp6to7 op) s = .next { s with cmdErr := true, cmdCause := .reservedOp }) ∧
  (∀ (op : BitVec 4) (s : State), exec (.reservedOp8toF op) s = .next { s with cmdErr := true, cmdCause := .reservedOp })

/-- R82, R39 (b): a 32-bit write at offset 0 has the effect of the command that bits [3:0] of its data word select, in the same step;
it always ends in a next state, and bits [7:4] and [31:16] of the word change nothing. -/
def Obligations.WriteToCmdRunsTheCommand : Prop :=
  ∀ (v v' : Word) (s : State),
    decodeAccess (.write 32 0x000 v) = .wrCmd v ∧
    (v.extractLsb' 0 4 = 0#4 → exec (.wrCmd v) s = exec .nop s) ∧
    (v.extractLsb' 0 4 = 1#4 → exec (.wrCmd v) s = exec .recv s) ∧
    (v.extractLsb' 0 4 = 2#4 → exec (.wrCmd v) s = exec .send s) ∧
    (v.extractLsb' 0 4 = 3#4 → exec (.wrCmd v) s = exec .crcInit s) ∧
    (v.extractLsb' 0 4 = 4#4 → exec (.wrCmd v) s = exec (.crcUpdate (v.extractLsb' 8 8)) s) ∧
    (5 ≤ (v.extractLsb' 0 4).toNat →
      exec (.wrCmd v) s = .next { s with cmdErr := true, cmdCause := .reservedOp }) ∧
    (∃ t, exec (.wrCmd v) s = .next t) ∧
    (v.extractLsb' 0 4 = v'.extractLsb' 0 4 → v.extractLsb' 8 8 = v'.extractLsb' 8 8 →
      exec (.wrCmd v) s = exec (.wrCmd v') s)

/-! ## Bus writes -/

/-- R85: write-1-to-clear of STATUS. -/
def Obligations.StatusWriteOneToClear : Prop :=
  ∀ (v : Word) (s : State), exec (.wrStatus v) s = .next { s with
    rxDone := if v.getLsbD 1 then false else s.rxDone
    txDone := if v.getLsbD 3 then false else s.txDone
    cmdErr := if v.getLsbD 4 then false else s.cmdErr
    cmdCause := if v.getLsbD 4 then .none else s.cmdCause
    txErr := if v.getLsbD 5 then false else s.txErr }

/-- R86: a write to TX_CFG stores the sequence and the length, legal or not, while `tx_busy = 0`, and is ignored while `tx_busy = 1`. -/
def Obligations.TxCfgWriteStoresWhileIdle : Prop :=
  ∀ (v : Word) (s : State),
    (s.txBusy = false → exec (.wrTxCfg v) s = .next { s with txSeq := v.extractLsb' 0 8, txLen := v.extractLsb' 16 16 }) ∧
    (s.txBusy = true → exec (.wrTxCfg v) s = .next s)

/-- R87, R25, R23: a write to TX_BUF stores its byte or its four bytes, little-endian, at indexes below MAX_PAYLOAD while
`tx_busy = 0`, changes no other byte and nothing else, and is ignored while `tx_busy = 1`. -/
def Obligations.TxBufWriteStoresWhileIdle : Prop :=
  ∀ s : State,
    (∀ i b, s.txBusy = true → exec (.wrbTxBuf i b) s = .next s) ∧
    (∀ k v, s.txBusy = true → exec (.wrTxBuf k v) s = .next s) ∧
    (∀ i b, s.txBusy = false → ∃ t, exec (.wrbTxBuf i b) s = .next t ∧ t = { s with txBuf := t.txBuf } ∧
      ∀ j, t.txByte j = if j = i.toNat ∧ j < s.cfg.maxPayload then b else s.txByte j) ∧
    (∀ k v, s.txBusy = false → ∃ t, exec (.wrTxBuf k v) s = .next t ∧ t = { s with txBuf := t.txBuf } ∧
      ∀ j, t.txByte j =
        if 4 * k.toNat ≤ j ∧ j < 4 * k.toNat + 4 ∧ j < s.cfg.maxPayload
        then v.extractLsb' (8 * (j - 4 * k.toNat)) 8 else s.txByte j)

/-- R88: writes to RX_INFO, RX_CRC, RX_COUNT, CRC_VALUE, RX_BUF and the reserved offsets change no state and raise nothing. -/
def Obligations.IgnoredWritesChangeNothing : Prop :=
  ∀ (v : Word) (w : BufWidth) (i : Byte) (a : Offset) (s : State),
    exec (.wrRxInfo v) s = .next s ∧ exec (.wrRxCrc v) s = .next s ∧ exec (.wrRxCount v) s = .next s ∧
    exec (.wrCrcValue v) s = .next s ∧ exec (.wrRxBuf w i v) s = .next s ∧ exec (.wrReserved a v) s = .next s

/-! ## Bus reads -/

/-- R89, R40, R57: what a read of each 32-bit register returns, field by field from bit 31 down to bit 0, with zeros elsewhere; a read
changes nothing else. The value goes to the host's accumulator (R50). -/
def Obligations.RegisterReadsReturnTheirFields : Prop :=
  ∀ s : State,
    exec .rdStatus s = .next { s with
      hostA := 0#12 ++ s.cmdCause.code ++ 0#1 ++ s.rxState.code ++ 0#1 ++ s.rxResult.code ++ s.health.code ++ BitVec.ofBool s.txErr
        ++ BitVec.ofBool s.cmdErr ++ BitVec.ofBool s.txDone ++ BitVec.ofBool s.txBusy ++ BitVec.ofBool s.rxDone
        ++ BitVec.ofBool s.rxBusy } ∧
    exec .rdRxInfo s = .next { s with hostA := s.rxLen ++ 0#8 ++ s.rxSeq } ∧
    exec .rdRxCrc s = .next { s with hostA := s.rxCrcCalc ++ s.rxCrcRecv } ∧
    exec .rdRxCount s = .next { s with hostA := 0#23 ++ s.rxCnt } ∧
    exec .rdTxCfg s = .next { s with hostA := s.txLen ++ 0#8 ++ s.txSeq } ∧
    exec .rdCrcValue s = .next { s with hostA := 0#16 ++ crcFinal s.cfg.crc s.crcAcc } ∧
    exec .rdCmd s = .next { s with hostA := 0 } ∧
    (∀ a, exec (.rdReserved a) s = .next { s with hostA := 0 })

/-- R41, R42, R43, R44: the codes of states, results, health and causes; the reserved codes are never produced. -/
def Obligations.CodesOfStatusFields : Prop :=
  [RxState.waitStart, .seq, .lenLo, .lenHi, .payload, .crcLo, .crcHi].map (fun x => x.code.toNat) = [0, 1, 2, 3, 4, 5, 6] ∧
  [RxResult.none, .frame, .timeout, .checksumError, .overflowError, .channelError].map (fun x => x.code.toNat)
    = [0, 1, 2, 3, 4, 5] ∧
  [Health.unknown, .ok, .fail].map (fun x => x.code.toNat) = [0, 1, 2] ∧
  [CmdCause.none, .reservedOp, .rxBusy, .txBusy, .txLength].map (fun x => x.code.toNat) = [0, 1, 2, 3, 4] ∧
  (∀ x : RxState, x.code.toNat < 7) ∧ (∀ x : RxResult, x.code.toNat < 6) ∧ (∀ x : Health, x.code.toNat < 3) ∧
  (∀ x : CmdCause, x.code.toNat < 5)

/-- R90, R23: reads of RX_BUF and TX_BUF of both widths; bytes at index MAX_PAYLOAD and above read 0. -/
def Obligations.BufferReadsReturnTheirBytes : Prop :=
  ∀ (s : State) (i : Byte),
    exec (.rdRxBuf .byte i) s = .next { s with hostA := 0#24 ++ s.rxByte i.toNat } ∧
    exec (.rdRxBuf .word i) s = .next { s with
      hostA := s.rxByte (i.toNat + 3) ++ s.rxByte (i.toNat + 2) ++ s.rxByte (i.toNat + 1) ++ s.rxByte i.toNat } ∧
    exec (.rdTxBuf .byte i) s = .next { s with hostA := 0#24 ++ s.txByte i.toNat } ∧
    exec (.rdTxBuf .word i) s = .next { s with
      hostA := s.txByte (i.toNat + 3) ++ s.txByte (i.toNat + 2) ++ s.txByte (i.toNat + 1) ++ s.txByte i.toNat } ∧
    (∀ j, s.cfg.maxPayload ≤ j → s.rxByte j = 0 ∧ s.txByte j = 0)

/-- R26, R91, R94: an access faults with a bus error at its offset exactly when it is neither a 32-bit access with `addr mod 4 = 0` nor
an 8-bit access in 0x100..0x2FF; every other access ends in a next state. -/
def Obligations.BusErrorExactlyForIllegalAccesses : Prop :=
  (∀ (a : BusAccess) (s : State), exec (.illegalAccess a) s = .fault (.busError a.addr)) ∧
  (∀ (a : BusAccess) (s : State), exec (decodeAccess a) s = .fault (.busError a.addr) ↔
    ¬ ((a.width = 32 ∧ a.addr.toNat % 4 = 0) ∨ (a.width = 8 ∧ 0x100 ≤ a.addr.toNat ∧ a.addr.toNat < 0x300))) ∧
  (∀ (a : BusAccess) (s : State),
    (a.width = 32 ∧ a.addr.toNat % 4 = 0) ∨ (a.width = 8 ∧ 0x100 ≤ a.addr.toNat ∧ a.addr.toNat < 0x300) →
    ∃ t, exec (decodeAccess a) s = .next t)

/-- R28: a read of any offset changes no state but the host's accumulator, and the same read repeated returns the same value. -/
def Obligations.ReadsHaveNoSideEffects : Prop :=
  ∀ (width : Nat) (addr : Offset) (s t : State), exec (decodeAccess (.read width addr)) s = .next t →
    t = { s with hostA := t.hostA } ∧ exec (decodeAccess (.read width addr)) t = .next t

/-- R25: byte lane k of an aligned buffer word is the byte at offset a + k, as an 8-bit read returns it. -/
def Obligations.BufferWordsAreLittleEndian : Prop :=
  ∀ (s t u : State) (i j : Byte) (k : Nat), k < 4 → i.toNat % 4 = 0 → j.toNat = i.toNat + k →
    (exec (.rdRxBuf .word i) s = .next t → exec (.rdRxBuf .byte j) s = .next u →
      u.hostA = (t.hostA.extractLsb' (8 * k) 8).setWidth 32) ∧
    (exec (.rdTxBuf .word i) s = .next t → exec (.rdTxBuf .byte j) s = .next u →
      u.hostA = (t.hostA.extractLsb' (8 * k) 8).setWidth 32)

/-! ## RX byte steps -/

/-- R63, R59, R60: a start byte, in any state, begins a new frame and posts nothing.
DESIGN CHOICE (log 6): a reload value of more than 16 bits stands with its low 16 bits. -/
def Obligations.StartByteResyncs : Prop :=
  ∀ s : State, s.rxBusy = true →
    decodeWire s.cfg.startByte s.rxState s.cfg.startByte = .rxStart ∧
    exec .rxStart s = .next { s with
      rxSeq := 0x00, rxLen := 0x0000, rxCnt := 0, rxCrcAcc := s.cfg.crc.init, rxCrcRecv := 0x0000, rxCrcCalc := 0x0000
      rxState := .seq, rxTimer := BitVec.ofNat 16 s.cfg.tHdr }

/-- R64: a data byte in WAIT_START is discarded and restarts the T_HDR timer.
DESIGN CHOICE (log 6): a reload value of more than 16 bits stands with its low 16 bits. -/
def Obligations.NoiseIsDiscarded : Prop :=
  ∀ (s : State) (d : Byte), s.rxBusy = true → s.rxState = .waitStart → d ≠ s.cfg.startByte →
    exec (.rxWait d) s = .next { s with rxTimer := BitVec.ofNat 16 s.cfg.tHdr }

/-- R65, R66: the sequence byte and the low length byte.
DESIGN CHOICE (log 6): a reload value of more than 16 bits stands with its low 16 bits. -/
def Obligations.SequenceAndLowLengthBytes : Prop :=
  ∀ (s : State) (d : Byte), s.rxBusy = true → d ≠ s.cfg.startByte →
    (s.rxState = .seq → exec (.rxSeq d) s = .next { s with
      rxSeq := d, rxCrcAcc := crcUpdate s.cfg.crc s.rxCrcAcc d, rxState := .lenLo
      rxTimer := BitVec.ofNat 16 s.cfg.tHdr }) ∧
    (s.rxState = .lenLo → exec (.rxLenLo d) s = .next { s with
      rxLen := s.rxLen.extractLsb' 8 8 ++ d, rxCrcAcc := crcUpdate s.cfg.crc s.rxCrcAcc d, rxState := .lenHi
      rxTimer := BitVec.ofNat 16 s.cfg.tHdr })

/-- R67: the high length byte: overflow posts OVERFLOW_ERROR, zero length goes to CRC_LO, any other to PAYLOAD.
DESIGN CHOICE (log 6): a reload value of more than 16 bits stands with its low 16 bits. -/
def Obligations.HighLengthByteDecides : Prop :=
  ∀ (s : State) (d : Byte) (len : Half), s.rxBusy = true → s.rxState = .lenHi → d ≠ s.cfg.startByte →
    len = d ++ s.rxLen.extractLsb' 0 8 →
    (s.cfg.maxPayload < len.toNat → exec (.rxLenHi d) s = .next { s with
      rxLen := len, rxCrcAcc := crcUpdate s.cfg.crc s.rxCrcAcc d, rxResult := .overflowError, rxDone := true
      rxBusy := false, rxState := .waitStart, rxTimer := 0 }) ∧
    (len = 0 → exec (.rxLenHi d) s = .next { s with
      rxLen := len, rxCrcAcc := crcUpdate s.cfg.crc s.rxCrcAcc d, rxState := .crcLo
      rxTimer := BitVec.ofNat 16 s.cfg.tPay }) ∧
    (len ≠ 0 → len.toNat ≤ s.cfg.maxPayload → exec (.rxLenHi d) s = .next { s with
      rxLen := len, rxCrcAcc := crcUpdate s.cfg.crc s.rxCrcAcc d, rxState := .payload
      rxTimer := BitVec.ofNat 16 s.cfg.tPay })

/-- R68: a payload byte is stored at `rx_cnt`, every other byte of both buffers stays, and the last one ends the payload. That
`rx_cnt` is an index of the buffer is R15 (b).
DESIGN CHOICE (log 6): a reload value of more than 16 bits stands with its low 16 bits. -/
def Obligations.PayloadByteIsStored : Prop :=
  ∀ (s : State) (d : Byte), s.rxBusy = true → s.rxState = .payload → d ≠ s.cfg.startByte →
    s.rxCnt.toNat < s.cfg.maxPayload →
    ∃ t, exec (.rxPayload d) s = .next t ∧
      (∀ k, t.rxByte k = if k = s.rxCnt.toNat then d else s.rxByte k) ∧ (∀ k, t.txByte k = s.txByte k) ∧
      t = { s with
        rxBuf := t.rxBuf, rxCrcAcc := crcUpdate s.cfg.crc s.rxCrcAcc d, rxCnt := s.rxCnt + 1
        rxState := if s.rxCnt.toNat + 1 = s.rxLen.toNat then .crcLo else .payload
        rxTimer := BitVec.ofNat 16 s.cfg.tPay }

/-- R69: the low checksum byte; it is not fed to `rx_crc_acc`.
DESIGN CHOICE (log 6): a reload value of more than 16 bits stands with its low 16 bits. -/
def Obligations.LowChecksumByteIsStored : Prop :=
  ∀ (s : State) (d : Byte), s.rxBusy = true → s.rxState = .crcLo → d ≠ s.cfg.startByte →
    exec (.rxCrcLo d) s = .next { s with
      rxCrcRecv := s.rxCrcRecv.extractLsb' 8 8 ++ d, rxState := .crcHi, rxTimer := BitVec.ofNat 16 s.cfg.tPay }

/-- R70: the high checksum byte ends the receive with FRAME and OK, or with CHECKSUM_ERROR and FAIL, by comparing all 16 bits. -/
def Obligations.HighChecksumByteGivesTheVerdict : Prop :=
  ∀ (s : State) (d : Byte) (got : Half), s.rxBusy = true → s.rxState = .crcHi → d ≠ s.cfg.startByte →
    got = d ++ s.rxCrcRecv.extractLsb' 0 8 →
    (crcFinal s.cfg.crc s.rxCrcAcc = got → exec (.rxCrcHi d) s = .next { s with
      rxCrcRecv := got, rxCrcCalc := got, health := .ok, rxResult := .frame, rxDone := true, rxBusy := false
      rxState := .waitStart, rxTimer := 0 }) ∧
    (crcFinal s.cfg.crc s.rxCrcAcc ≠ got → exec (.rxCrcHi d) s = .next { s with
      rxCrcRecv := got, rxCrcCalc := crcFinal s.cfg.crc s.rxCrcAcc, health := .fail, rxResult := .checksumError
      rxDone := true, rxBusy := false, rxState := .waitStart, rxTimer := 0 })

/-! ## Events and the TX step -/

/-- R72, R73: a tick without an armed receive has no effect; with one it counts down, and at 1 it posts TIMEOUT. -/
def Obligations.TickCountsDownOrTimesOut : Prop :=
  ∀ s : State,
    (s.rxBusy = false → exec .envTick s = .next s) ∧
    (s.rxBusy = true → 1 < s.rxTimer.toNat → exec .envTick s = .next { s with rxTimer := s.rxTimer - 1 }) ∧
    (s.rxBusy = true → s.rxTimer.toNat ≤ 1 → exec .envTick s = .next { s with
      rxResult := .timeout, rxDone := true, rxBusy := false, rxState := .waitStart, rxTimer := 0 })

/-- R74: the abstract timeout posts TIMEOUT whenever a receive is armed. -/
def Obligations.AbstractTimeoutPostsTimeout : Prop :=
  ∀ s : State, s.rxBusy = true → exec .envTimeout s = .next { s with
    rxResult := .timeout, rxDone := true, rxBusy := false, rxState := .waitStart, rxTimer := 0 }

/-- R75, R80, R95: what each side of a channel reset does, and that the event does both in one step (log 11). -/
def Obligations.ChannelResetEndsBothSides : Prop :=
  ∀ s : State,
    (s.rxBusy = false → exec .envResetRx s = .next { s with rxQueue := [] }) ∧
    (s.rxBusy = true → exec .envResetRx s = .next { s with
      rxQueue := [], rxResult := .channelError, rxDone := true, rxBusy := false, rxState := .waitStart, rxTimer := 0 }) ∧
    (s.txBusy = false → exec .envResetTx s = .next s) ∧
    (s.txBusy = true → exec .envResetTx s = .next { s with txBusy := false, txErr := true, txIdx := 0 }) ∧
    (∀ rest, s.pending = .channelReset :: rest → s.rxBusy = true → s.txBusy = true → step s = .next { s with
      pending := rest, rxQueue := [], rxResult := .channelError, rxDone := true, rxBusy := false, rxState := .waitStart
      rxTimer := 0, txBusy := false, txErr := true, txIdx := 0 })

/-- R79: an emit step puts the byte of R45's table at `tx_idx` on the wire, folds it into the running CRC when the CRC covers it, and
ends the frame or goes on to the next index. -/
def Obligations.EmitStepSendsTheIndexedByte : Prop :=
  ∀ s : State, s.txBusy = true → s.txIdx.toNat ≤ s.txLen.toNat + 5 →
    ∃ b t, ([s.cfg.startByte, s.txSeq, s.txLen.extractLsb' 0 8, s.txLen.extractLsb' 8 8]
        ++ (List.range s.txLen.toNat).map s.txByte
        ++ [(crcFinal s.cfg.crc s.txCrcAcc).extractLsb' 0 8, (crcFinal s.cfg.crc s.txCrcAcc).extractLsb' 8 8])[s.txIdx.toNat]?
        = some b ∧
      exec .txEmit s = .next t ∧ t = { s with
        txOut := s.txOut ++ [b]
        txCrcAcc := if 1 ≤ s.txIdx.toNat ∧ s.txIdx.toNat ≤ 3 + s.txLen.toNat
          then crcUpdate s.cfg.crc s.txCrcAcc b else s.txCrcAcc
        txBusy := if s.txIdx.toNat = 5 + s.txLen.toNat then false else true
        txDone := if s.txIdx.toNat = 5 + s.txLen.toNat then true else s.txDone
        txIdx := if s.txIdx.toNat = 5 + s.txLen.toNat then 0 else s.txIdx + 1 }

/-! ## Whole-machine rules -/

/-- R34, R13, R33 (d): what an RX step, a tick or a timeout does depends on nothing of the TX engine, of the host generator or of the
rejection flags, and changes nothing of them. -/
def Obligations.RxStepsIgnoreTheTxSide : Prop :=
  ∀ (d : Byte) (i : Instr) (s u t : State),
    i ∈ [Instr.rxStart, .rxWait d, .rxSeq d, .rxLenLo d, .rxLenHi d, .rxPayload d, .rxCrcLo d, .rxCrcHi d, .envTick,
      .envTimeout] →
    exec i s = .next t → exec i (s.withTxSide u) = .next (t.withTxSide u) ∧ t.withTxSide s = t

/-- R34, R13, R33 (d): what a TX step does depends on nothing of the RX engine, of the host generator or of the rejection flags, and
changes nothing of them. -/
def Obligations.TxStepsIgnoreTheRxSide : Prop :=
  ∀ s u t : State, exec .txEmit s = .next t →
    exec .txEmit (s.withRxSide u) = .next (t.withRxSide u) ∧ t.withRxSide s = t

/-- R33 (a), (b): while a frame is in flight no operation changes what is being sent, and it can leave the busy state only by its last
byte or by a channel reset. -/
def Obligations.LockProtectsTheFrameInFlight : Prop :=
  ∀ (i : Instr) (s t : State), s.txBusy = true → exec i s = .next t →
    t.txSeq = s.txSeq ∧ t.txLen = s.txLen ∧ (∀ k, t.txByte k = s.txByte k) ∧
    (t.txBusy = false → i = .txEmit ∨ i = .envResetTx)

/-- R20 with R58, R61, R85: what sets and what clears `rx_busy` and `rx_done`. -/
def Obligations.ReceiveFlagsChangeAsTabled : Prop :=
  ∀ (i : Instr) (s t : State), exec i s = .next t →
    (s.rxBusy = false → t.rxBusy = true → i = .recv ∨ ∃ v, i = .wrCmd v ∧ commandOp v = 1) ∧
    (s.rxBusy = true → t.rxBusy = false → t.rxDone = true ∧ t.rxResult ≠ .none ∧ t.rxState = .waitStart) ∧
    (s.rxDone = false → t.rxDone = true → s.rxBusy = true ∧ t.rxBusy = false) ∧
    (s.rxDone = true → t.rxDone = false →
      i = .recv ∨ (∃ v, i = .wrCmd v ∧ commandOp v = 1) ∨ ∃ v, i = .wrStatus v ∧ v.getLsbD 1 = true)

/-- R20 with R78, R79, R80, R85, R95: what sets and what clears `tx_busy`, `tx_done` and `tx_err`. -/
def Obligations.TransmitFlagsChangeAsTabled : Prop :=
  ∀ (i : Instr) (s t : State), exec i s = .next t →
    (s.txBusy = false → t.txBusy = true → i = .send ∨ ∃ v, i = .wrCmd v ∧ commandOp v = 2) ∧
    (s.txBusy = true → t.txBusy = false → (i = .txEmit ∧ t.txDone = true) ∨ (i = .envResetTx ∧ t.txErr = true)) ∧
    (s.txDone = false → t.txDone = true → i = .txEmit ∧ s.txBusy = true ∧ t.txBusy = false) ∧
    (s.txDone = true → t.txDone = false →
      i = .send ∨ (∃ v, i = .wrCmd v ∧ commandOp v = 2) ∨ ∃ v, i = .wrStatus v ∧ v.getLsbD 3 = true) ∧
    (s.txErr = false → t.txErr = true → i = .envResetTx ∧ s.txBusy = true) ∧
    (s.txErr = true → t.txErr = false → ∃ v, i = .wrStatus v ∧ v.getLsbD 5 = true)

/-- R93, R85, R20: `cmd_err` and `cmd_cause` change only by a rejection, which changes nothing else and does not affect `irq`, or by
W1C of STATUS[4], which clears both. -/
def Obligations.RejectionChangesOnlyItsFlag : Prop :=
  ∀ (i : Instr) (s t : State), exec i s = .next t → t.cmdErr ≠ s.cmdErr ∨ t.cmdCause ≠ s.cmdCause →
    (t = { s with cmdErr := true, cmdCause := t.cmdCause } ∧ t.cmdCause ≠ .none ∧ t.irq = s.irq) ∨
    (∃ v, i = .wrStatus v ∧ v.getLsbD 4 = true ∧ t.cmdErr = false ∧ t.cmdCause = .none)

/-- R97: `irq` rises only when a result is posted or the last TX byte is sent, and falls only by RECV, SEND or W1C. -/
def Obligations.IrqRisesAndFallsAsStated : Prop :=
  ∀ (i : Instr) (s t : State), exec i s = .next t →
    (s.irq = false → t.irq = true →
      (s.rxBusy = true ∧ t.rxBusy = false ∧ t.rxDone = true) ∨ (i = .txEmit ∧ t.txBusy = false ∧ t.txDone = true)) ∧
    (s.irq = true → t.irq = false →
      i = .recv ∨ i = .send ∨ (∃ v, i = .wrCmd v ∧ (commandOp v = 1 ∨ commandOp v = 2)) ∨
      ∃ v, i = .wrStatus v ∧ (v.getLsbD 1 = true ∨ v.getLsbD 3 = true))

/-- R98: `health` changes only with a checksum verdict, OK with FRAME and FAIL with CHECKSUM_ERROR. -/
def Obligations.HealthIsTheLastVerdict : Prop :=
  ∀ (i : Instr) (s t : State), exec i s = .next t →
    t.health = s.health ∨
    ∃ d, i = .rxCrcHi d ∧ s.rxBusy = true ∧ s.rxState = .crcHi ∧
      ((t.health = .ok ∧ t.rxResult = .frame) ∨ (t.health = .fail ∧ t.rxResult = .checksumError))

/-- R101, R113, R58, R61: while no receive is armed, no operation but RECV changes the result, and none changes the frame fields or the
received bytes. -/
def Obligations.LastFrameStaysReadable : Prop :=
  ∀ (i : Instr) (s t : State), s.rxBusy = false → exec i s = .next t →
    (t.rxResult = s.rxResult ∨ i = .recv ∨ ∃ v, i = .wrCmd v ∧ commandOp v = 1) ∧
    t.rxSeq = s.rxSeq ∧ t.rxLen = s.rxLen ∧ t.rxCnt = s.rxCnt ∧ t.rxCrcRecv = s.rxCrcRecv ∧ t.rxCrcCalc = s.rxCrcCalc ∧
    (∀ k, t.rxByte k = s.rxByte k)

/-- R13, R81: only the CRC commands change the host generator, and only a write to TX_CFG changes the sequence byte to send. -/
def Obligations.OnlyTheirCommandsWriteCrcAndSequence : Prop :=
  ∀ (i : Instr) (s t : State), exec i s = .next t →
    (t.crcAcc = s.crcAcc ∨ i = .crcInit ∨ (∃ b, i = .crcUpdate b) ∨
      ∃ v, i = .wrCmd v ∧ (commandOp v = 3 ∨ commandOp v = 4)) ∧
    (t.txSeq = s.txSeq ∨ ∃ v, i = .wrTxCfg v)

/-- R71, R98: no operation but the read that shows it depends on the received sequence number, and none but the read of STATUS on
`health`. -/
def Obligations.AdvisoryFieldsAreNeverUsed : Prop :=
  ∀ (i : Instr) (s t : State), exec i s = .next t →
    (∀ q : Byte, i ≠ .rdRxInfo → ∃ q', exec i { s with rxSeq := q } = .next { t with rxSeq := q' }) ∧
    (∀ h : Health, i ≠ .rdStatus → ∃ h', exec i { s with health := h } = .next { t with health := h' })

/-- R31 (a), (b), R116: a write to CMD followed by a read. The read is that of the state the whole command leaves; and what STATUS
and CRC_VALUE then show for RECV, SEND, the reserved commands, CRC_INIT and CRC_UPDATE. -/
def Obligations.CommandsCompleteInTheirWrite : Prop :=
  ∀ (s : State) (w : Word) (addr : Offset) (later : List Stimulus),
    s.pending = .bus (.write 32 0x000 w) :: .bus (.read 32 addr) :: later →
    (∃ m, exec (decodeCommand w) { s with pending := .bus (.read 32 addr) :: later } = .next m ∧
      core.run 2 s = exec (decodeAccess (.read 32 addr)) { m with pending := later }) ∧
    (addr = 0x004 → ∃ t, core.run 2 s = .next t ∧
      (commandOp w = 1 → t.hostA.getLsbD 0 = true ∧
        (s.rxBusy = true → t.hostA.getLsbD 4 = true ∧ t.hostA.extractLsb' 16 4 = 2#4)) ∧
      (commandOp w = 2 →
        (s.txBusy = true → t.hostA.getLsbD 4 = true ∧ t.hostA.extractLsb' 16 4 = 3#4) ∧
        (s.txBusy = false → s.cfg.maxPayload < s.txLen.toNat →
          t.hostA.getLsbD 4 = true ∧ t.hostA.extractLsb' 16 4 = 4#4) ∧
        (s.txBusy = false → s.txLen.toNat ≤ s.cfg.maxPayload →
          t.hostA.getLsbD 2 = true ∧ t.hostA.getLsbD 3 = false)) ∧
      (5 ≤ (commandOp w).toNat → t.hostA.getLsbD 4 = true ∧ t.hostA.extractLsb' 16 4 = 1#4)) ∧
    (addr = 0x018 → ∃ t, core.run 2 s = .next t ∧
      (commandOp w = 3 → t.hostA = 0#16 ++ crcFinal s.cfg.crc s.cfg.crc.init) ∧
      (commandOp w = 4 → t.hostA = 0#16 ++ crcFinal s.cfg.crc (crcUpdate s.cfg.crc s.crcAcc (commandData w))))

/-- R99: in one clock the byte comes before the tick, so with timeouts of two ticks or more a queued byte is consumed before the
expiring tick and no TIMEOUT is posted. DESIGN CHOICE (log 20): that the RX byte event of a clock is the consumption of an already
queued byte, where R99 speaks of a byte that arrives in the same clock, is the model's reading. -/
def Obligations.ByteComesBeforeTheExpiringTick : Prop :=
  ∀ (s t : State) (b : Byte) (q : List Byte), s.cfg.wf = true → 2 ≤ s.cfg.tHdr → 2 ≤ s.cfg.tPay →
    s.rxBusy = true → s.rxResult = .none → s.rxTimer = 1 → s.rxQueue = b :: q →
    performAll (ClockEvents.schedule
      { hostAccess := none, channelReset := false, rxByte := true, tick := true, txEmit := false }) s = .next t →
    t.rxQueue = q ∧ t.rxResult ≠ .timeout

/-! ## Reset and platform -/

/-- R108: a block reset puts every element of the block at its reset value, the buffers being drawn anew, and leaves `rx_queue` and
`tx_out`. That assertion and release are one event, and the draw, are the model's (log 3, 12). -/
def Obligations.BlockResetRestoresEveryElement : Prop :=
  ∀ (s : State) (rest : List Stimulus), s.pending = .blockReset :: rest →
    step s = .next {
      cfg := s.cfg, crcAcc := s.cfg.crc.init, rxState := .waitStart, rxBusy := false, rxDone := false, rxResult := .none
      rxSeq := 0, rxLen := 0, rxCnt := 0, rxCrcAcc := s.cfg.crc.init, rxCrcRecv := 0, rxCrcCalc := 0, rxBuf := []
      rxTimer := 0, txBusy := false, txDone := false, txErr := false, txSeq := 0, txLen := 0, txBuf := [], txIdx := 0
      txCrcAcc := s.cfg.crc.init, cmdErr := false, cmdCause := .none, health := .unknown, rxQueue := s.rxQueue
      txOut := s.txOut, hostA := s.hostA, pending := rest, resets := s.resets + 1 }

/-- R109: what the registers read after reset; a buffer byte reads as some byte. -/
def Obligations.RegistersAfterReset : Prop :=
  ∀ c : Config,
    exec .rdStatus (State.resetWith c) = .next { State.resetWith c with hostA := 0x00000000 } ∧
    exec .rdRxInfo (State.resetWith c) = .next { State.resetWith c with hostA := 0x00000000 } ∧
    exec .rdRxCrc (State.resetWith c) = .next { State.resetWith c with hostA := 0x00000000 } ∧
    exec .rdRxCount (State.resetWith c) = .next { State.resetWith c with hostA := 0x00000000 } ∧
    exec .rdTxCfg (State.resetWith c) = .next { State.resetWith c with hostA := 0x00000000 } ∧
    exec .rdCrcValue (State.resetWith c) =
      .next { State.resetWith c with hostA := (crcFinal c.crc c.crc.init).setWidth 32 } ∧
    exec .rdCrcValue State.reset = .next { State.reset with hostA := 0x0000FFFF } ∧
    (∀ i, ∃ b : Byte, exec (.rdRxBuf .byte i) (State.resetWith c) = .next { State.resetWith c with hostA := 0#24 ++ b }) ∧
    (∀ i, ∃ b : Byte, exec (.rdTxBuf .byte i) (State.resetWith c) = .next { State.resetWith c with hostA := 0#24 ++ b })

/-- R105: a step of one instance neither reads nor writes another's state. -/
def Obligations.InstancesAreIsolated : Prop :=
  ∀ (p q : Platform) (i : Nat), p.stepAt i = .next q →
    q.bases = p.bases ∧ (∀ j, j ≠ i → q.endpoints[j]? = p.endpoints[j]?) ∧
    (∀ p' : Platform, p'.endpoints[i]? = p.endpoints[i]? →
      ∃ q', p'.stepAt i = .next q' ∧ q'.endpoints[i]? = q.endpoints[i]?)
end

