-- ==== Sys2Proof/Laws/Asm.lean ====
section
/-! SUPPORT. What one turn of a host program can do (R50), said once for each kind of line. -/
namespace Sys2Proof.Machine

/-- Reading at a `poll` whose condition fails: the host's next line is the same `poll`. -/
theorem AsmRun.turn_poll_again (off : Offset) (mask v : Word) (rest : List Asm) (s t : State)
    (h : perform (.bus (.read 32 off)) s = .next t) (ha : t.hostA &&& mask ≠ v) :
    AsmRun.turn ⟨[], .poll off mask v :: rest, s⟩ = .next ⟨[], .poll off mask v :: rest, t⟩ := by
  simp [AsmRun.turn, Asm.expand, performAll, h, chain, continueAsm, linesAfterPoll, pollAgain, ha]

/-- Reading at a `poll` whose condition holds: the host goes on with the lines after it. -/
theorem AsmRun.turn_poll_done (off : Offset) (mask v : Word) (rest : List Asm) (s t : State)
    (h : perform (.bus (.read 32 off)) s = .next t) (ha : t.hostA &&& mask = v) :
    AsmRun.turn ⟨[], .poll off mask v :: rest, s⟩ = .next ⟨[], rest, t⟩ := by
  simp [AsmRun.turn, Asm.expand, performAll, h, chain, continueAsm, linesAfterPoll, pollAgain, ha]

/-- A turn gets past a `poll` only when the value read meets its condition. -/
theorem AsmRun.turn_poll_cases (off : Offset) (mask v : Word) (rest : List Asm) (s : State) (r : AsmRun)
    (h : AsmRun.turn ⟨[], .poll off mask v :: rest, s⟩ = .next r) :
    perform (.bus (.read 32 off)) s = .next r.machine ∧ r.line = [] ∧
    ((r.machine.hostA &&& mask ≠ v ∧ r.program = .poll off mask v :: rest) ∨
      (r.machine.hostA &&& mask = v ∧ r.program = rest)) := by
  cases hp : perform (.bus (.read 32 off)) s with
  | next t =>
    by_cases ha : t.hostA &&& mask = v
    · rw [AsmRun.turn_poll_done off mask v rest s t hp ha] at h
      obtain rfl := Host.Outcome.next.inj h
      exact ⟨rfl, rfl, .inr ⟨ha, rfl⟩⟩
    · rw [AsmRun.turn_poll_again off mask v rest s t hp ha] at h
      obtain rfl := Host.Outcome.next.inj h
      exact ⟨rfl, rfl, .inl ⟨ha, rfl⟩⟩
  | fault e => simp [AsmRun.turn, Asm.expand, performAll, hp, chain, continueAsm] at h
  | refused e => simp [AsmRun.turn, Asm.expand, performAll, hp, chain, continueAsm] at h

/-- The next stimulus of the line begun. -/
theorem AsmRun.turn_stimulus (st : Stimulus) (line : List Stimulus) (program : List Asm) (s t : State)
    (h : perform st s = .next t) :
    AsmRun.turn ⟨st :: line, program, s⟩ = .next ⟨line, program, t⟩ := by
  simp [AsmRun.turn, h, continueAsm]

/-- `env.run` while an engine step is enabled: that step is next, and the line comes again after it. -/
theorem AsmRun.turn_envRun_again (rest : List Asm) (s : State) (st : Stimulus) (h : nextEngineStep s = some st) :
    AsmRun.turn ⟨[], .envRun :: rest, s⟩ = .next ⟨[st], .envRun :: rest, s⟩ := by
  simp [AsmRun.turn, Asm.expand, linesAfterEnvRun, h]

/-- `env.run` while none is enabled: the program goes on with the lines after it. -/
theorem AsmRun.turn_envRun_done (rest : List Asm) (s : State) (h : nextEngineStep s = none) :
    AsmRun.turn ⟨[], .envRun :: rest, s⟩ = .next ⟨[], rest, s⟩ := by
  simp [AsmRun.turn, Asm.expand, linesAfterEnvRun, h]

/-- No engine step is next exactly when neither engine is enabled. -/
theorem nextEngineStep_eq_none (s : State) :
    nextEngineStep s = none ↔ (s.rxBusy = false ∨ s.rxQueue = []) ∧ s.txBusy = false := by
  unfold nextEngineStep
  cases s.rxBusy <;> cases s.rxQueue <;> cases s.txBusy <;> simp

/-- Beginning a line that is no `poll` and no `env.run`: its expansion is what is left of it. -/
theorem AsmRun.turn_begin (l : Asm) (rest : List Asm) (s : State) (hl : ∀ off mask v, l ≠ .poll off mask v)
    (hr : l ≠ .envRun) :
    AsmRun.turn ⟨[], l :: rest, s⟩ = .next ⟨l.expand s, rest, s⟩ := by
  cases l with
  | poll off mask v => exact absurd rfl (hl off mask v)
  | envRun => exact absurd rfl hr
  | _ => rfl

end Sys2Proof.Machine
end

