-- ==== Sys2Proof/Laws/Crc.lean ====
section
/-! SUPPORT. Small laws of the CRC functions. -/
namespace Sys2Proof

@[simp] theorem crcFold_nil (p : CrcProfile) (c : Half) : crcFold p c [] = c := rfl

@[simp] theorem crcFold_cons (p : CrcProfile) (c : Half) (b : Byte) (bs : List Byte) :
    crcFold p c (b :: bs) = crcFold p (crcUpdate p c b) bs := rfl

theorem crcFold_append (p : CrcProfile) (c : Half) (as bs : List Byte) :
    crcFold p c (as ++ bs) = crcFold p (crcFold p c as) bs := by
  simp [crcFold, List.foldl_append]

/-- With the default profile `crc_final` is the identity (R52). -/
@[simp] theorem crcFinal_ccittFalse (c : Half) : crcFinal CrcProfile.ccittFalse c = c := by
  simp [crcFinal, CrcProfile.ccittFalse]

end Sys2Proof
end

