-- ==== Sys2Proof/Laws/Memory.lean ====
section
/-! SUPPORT. The laws of buffer memory: reading after a store, and that a store keeps the canonical form. -/
namespace Sys2Proof.Machine

theorem Memory.lookup_store_same (m : Memory) (a : Nat) (b : Byte) : (m.store a b).lookup a = some b := by
  induction m with
  | nil => simp [Memory.store, Memory.lookup]
  | cons c m ih =>
    unfold Memory.store
    split
    · simp [Memory.lookup]
    · split
      · simp [Memory.lookup]
      · next h1 h2 => simp [Memory.lookup, ih, Ne.symm h2]

theorem Memory.lookup_store_other (m : Memory) (a k : Nat) (b : Byte) (h : k ≠ a) :
    (m.store a b).lookup k = m.lookup k := by
  induction m with
  | nil => simp [Memory.store, Memory.lookup, Ne.symm h]
  | cons c m ih =>
    unfold Memory.store
    split
    · simp [Memory.lookup, Ne.symm h]
    · split
      · next h1 h2 => subst h2; simp [Memory.lookup, Ne.symm h]
      · simp [Memory.lookup, ih]

/-- An index above the first entry's stays above it after a store further right. -/
theorem Memory.head_store (m : Memory) (a n : Nat) (b : Byte) (h : ∀ c ∈ m.head?, n < c.1) (ha : n < a) :
    ∀ c ∈ (m.store a b).head?, n < c.1 := by
  cases m with
  | nil => simpa [Memory.store] using ha
  | cons c m =>
    have hc : n < c.1 := h c (by simp)
    unfold Memory.store
    split
    · simpa using ha
    · split
      · simpa using ha
      · simpa using hc

theorem Memory.wf_cons (c : Host.Cell) (m : Memory) :
    Memory.wf (c :: m) = true ↔ (∀ d ∈ m.head?, c.1 < d.1) ∧ Memory.wf m = true := by
  cases m <;> simp [Memory.wf]

/-- Every store keeps the canonical form. -/
theorem Memory.store_wf (m : Memory) (a : Nat) (b : Byte) (h : Memory.wf m = true) :
    Memory.wf (m.store a b) = true := by
  induction m with
  | nil => simp [Memory.store, Memory.wf]
  | cons c m ih =>
    obtain ⟨hhead, htail⟩ := (Memory.wf_cons c m).1 h
    unfold Memory.store
    split
    · next hlt => exact (Memory.wf_cons _ _).2 ⟨by simpa using hlt, h⟩
    · split
      · next heq => exact (Memory.wf_cons _ _).2 ⟨by simpa [heq] using hhead, htail⟩
      · next h1 h2 =>
        exact (Memory.wf_cons _ _).2 ⟨Memory.head_store m a c.1 b hhead (by omega), ih htail⟩

theorem Memory.store_below (m : Memory) (a n : Nat) (b : Byte) (h : Memory.below n m = true) (ha : a < n) :
    Memory.below n (m.store a b) = true := by
  induction m with
  | nil => simpa [Memory.store, Memory.below] using ha
  | cons c m ih =>
    simp only [Memory.below, List.all_cons, Bool.and_eq_true, decide_eq_true_eq] at h ih ⊢
    unfold Memory.store
    split
    · simp [h.1, ha, h.2]
    · split
      · simp [ha, h.2]
      · simpa [h.1] using ih h.2

theorem bufferStore_wf (n : Nat) (m : Memory) (i : Nat) (b : Byte) (h : Memory.wf m = true) :
    Memory.wf (bufferStore n m i b) = true := by
  unfold bufferStore
  split
  · exact Memory.store_wf m i b h
  · exact h

theorem bufferStore_below (n : Nat) (m : Memory) (i : Nat) (b : Byte) (h : Memory.below n m = true) :
    Memory.below n (bufferStore n m i b) = true := by
  unfold bufferStore
  split
  · next hi => exact Memory.store_below m i n b h hi
  · exact h

/-- A buffer byte after a store at the same index: the byte stored, where the index exists. -/
theorem bufferByte_bufferStore_same (n : Nat) (m : Memory) (u b : Byte) (i : Nat) :
    bufferByte n (bufferStore n m i b) u i = if i < n then b else 0 := by
  unfold bufferByte bufferStore
  split <;> simp [Memory.lookup_store_same]

/-- A buffer byte after a store at another index: as before. -/
theorem bufferByte_bufferStore_other (n : Nat) (m : Memory) (u b : Byte) (i k : Nat) (h : k ≠ i) :
    bufferByte n (bufferStore n m i b) u k = bufferByte n m u k := by
  unfold bufferByte bufferStore
  by_cases hk : k < n <;> by_cases hi : i < n <;> simp [hk, hi, Memory.lookup_store_other _ _ _ _ h]

end Sys2Proof.Machine
end

