-- ==== Sys2Proof/Laws/State.lean ====
section
/-! SUPPORT. For each state update of the model, one lemma per field: what the field is after it. Later proofs cite
these and do not unfold a record update. -/
namespace Sys2Proof.Machine

/-! ## postResult (R58) -/

@[simp] theorem State.postResult_cfg (s : State) (r : RxResult) : (s.postResult r).cfg = s.cfg := rfl
@[simp] theorem State.postResult_crcAcc (s : State) (r : RxResult) : (s.postResult r).crcAcc = s.crcAcc := rfl
@[simp] theorem State.postResult_rxState (s : State) (r : RxResult) : (s.postResult r).rxState = .waitStart := rfl
@[simp] theorem State.postResult_rxBusy (s : State) (r : RxResult) : (s.postResult r).rxBusy = false := rfl
@[simp] theorem State.postResult_rxDone (s : State) (r : RxResult) : (s.postResult r).rxDone = true := rfl
@[simp] theorem State.postResult_rxResult (s : State) (r : RxResult) : (s.postResult r).rxResult = r := rfl
@[simp] theorem State.postResult_rxSeq (s : State) (r : RxResult) : (s.postResult r).rxSeq = s.rxSeq := rfl
@[simp] theorem State.postResult_rxLen (s : State) (r : RxResult) : (s.postResult r).rxLen = s.rxLen := rfl
@[simp] theorem State.postResult_rxCnt (s : State) (r : RxResult) : (s.postResult r).rxCnt = s.rxCnt := rfl
@[simp] theorem State.postResult_rxCrcAcc (s : State) (r : RxResult) : (s.postResult r).rxCrcAcc = s.rxCrcAcc := rfl
@[simp] theorem State.postResult_rxCrcRecv (s : State) (r : RxResult) : (s.postResult r).rxCrcRecv = s.rxCrcRecv := rfl
@[simp] theorem State.postResult_rxCrcCalc (s : State) (r : RxResult) : (s.postResult r).rxCrcCalc = s.rxCrcCalc := rfl
@[simp] theorem State.postResult_rxBuf (s : State) (r : RxResult) : (s.postResult r).rxBuf = s.rxBuf := rfl
@[simp] theorem State.postResult_rxTimer (s : State) (r : RxResult) : (s.postResult r).rxTimer = 0 := rfl
@[simp] theorem State.postResult_txBusy (s : State) (r : RxResult) : (s.postResult r).txBusy = s.txBusy := rfl
@[simp] theorem State.postResult_txDone (s : State) (r : RxResult) : (s.postResult r).txDone = s.txDone := rfl
@[simp] theorem State.postResult_txErr (s : State) (r : RxResult) : (s.postResult r).txErr = s.txErr := rfl
@[simp] theorem State.postResult_txSeq (s : State) (r : RxResult) : (s.postResult r).txSeq = s.txSeq := rfl
@[simp] theorem State.postResult_txLen (s : State) (r : RxResult) : (s.postResult r).txLen = s.txLen := rfl
@[simp] theorem State.postResult_txBuf (s : State) (r : RxResult) : (s.postResult r).txBuf = s.txBuf := rfl
@[simp] theorem State.postResult_txIdx (s : State) (r : RxResult) : (s.postResult r).txIdx = s.txIdx := rfl
@[simp] theorem State.postResult_txCrcAcc (s : State) (r : RxResult) : (s.postResult r).txCrcAcc = s.txCrcAcc := rfl
@[simp] theorem State.postResult_cmdErr (s : State) (r : RxResult) : (s.postResult r).cmdErr = s.cmdErr := rfl
@[simp] theorem State.postResult_cmdCause (s : State) (r : RxResult) : (s.postResult r).cmdCause = s.cmdCause := rfl
@[simp] theorem State.postResult_health (s : State) (r : RxResult) : (s.postResult r).health = s.health := rfl
@[simp] theorem State.postResult_rxQueue (s : State) (r : RxResult) : (s.postResult r).rxQueue = s.rxQueue := rfl
@[simp] theorem State.postResult_txOut (s : State) (r : RxResult) : (s.postResult r).txOut = s.txOut := rfl
@[simp] theorem State.postResult_hostA (s : State) (r : RxResult) : (s.postResult r).hostA = s.hostA := rfl
@[simp] theorem State.postResult_pending (s : State) (r : RxResult) : (s.postResult r).pending = s.pending := rfl
@[simp] theorem State.postResult_resets (s : State) (r : RxResult) : (s.postResult r).resets = s.resets := rfl

/-! ## armReceive (R61) -/

@[simp] theorem State.armReceive_cfg (s : State) : s.armReceive.cfg = s.cfg := rfl
@[simp] theorem State.armReceive_crcAcc (s : State) : s.armReceive.crcAcc = s.crcAcc := rfl
@[simp] theorem State.armReceive_rxState (s : State) : s.armReceive.rxState = s.rxState := rfl
@[simp] theorem State.armReceive_rxBusy (s : State) : s.armReceive.rxBusy = true := rfl
@[simp] theorem State.armReceive_rxDone (s : State) : s.armReceive.rxDone = false := rfl
@[simp] theorem State.armReceive_rxResult (s : State) : s.armReceive.rxResult = .none := rfl
@[simp] theorem State.armReceive_rxSeq (s : State) : s.armReceive.rxSeq = s.rxSeq := rfl
@[simp] theorem State.armReceive_rxLen (s : State) : s.armReceive.rxLen = s.rxLen := rfl
@[simp] theorem State.armReceive_rxCnt (s : State) : s.armReceive.rxCnt = s.rxCnt := rfl
@[simp] theorem State.armReceive_rxCrcAcc (s : State) : s.armReceive.rxCrcAcc = s.rxCrcAcc := rfl
@[simp] theorem State.armReceive_rxCrcRecv (s : State) : s.armReceive.rxCrcRecv = s.rxCrcRecv := rfl
@[simp] theorem State.armReceive_rxCrcCalc (s : State) : s.armReceive.rxCrcCalc = s.rxCrcCalc := rfl
@[simp] theorem State.armReceive_rxBuf (s : State) : s.armReceive.rxBuf = s.rxBuf := rfl
@[simp] theorem State.armReceive_rxTimer (s : State) : s.armReceive.rxTimer = timerValue s.cfg.tHdr := rfl
@[simp] theorem State.armReceive_txBusy (s : State) : s.armReceive.txBusy = s.txBusy := rfl
@[simp] theorem State.armReceive_txDone (s : State) : s.armReceive.txDone = s.txDone := rfl
@[simp] theorem State.armReceive_txErr (s : State) : s.armReceive.txErr = s.txErr := rfl
@[simp] theorem State.armReceive_txSeq (s : State) : s.armReceive.txSeq = s.txSeq := rfl
@[simp] theorem State.armReceive_txLen (s : State) : s.armReceive.txLen = s.txLen := rfl
@[simp] theorem State.armReceive_txBuf (s : State) : s.armReceive.txBuf = s.txBuf := rfl
@[simp] theorem State.armReceive_txIdx (s : State) : s.armReceive.txIdx = s.txIdx := rfl
@[simp] theorem State.armReceive_txCrcAcc (s : State) : s.armReceive.txCrcAcc = s.txCrcAcc := rfl
@[simp] theorem State.armReceive_cmdErr (s : State) : s.armReceive.cmdErr = s.cmdErr := rfl
@[simp] theorem State.armReceive_cmdCause (s : State) : s.armReceive.cmdCause = s.cmdCause := rfl
@[simp] theorem State.armReceive_health (s : State) : s.armReceive.health = s.health := rfl
@[simp] theorem State.armReceive_rxQueue (s : State) : s.armReceive.rxQueue = s.rxQueue := rfl
@[simp] theorem State.armReceive_txOut (s : State) : s.armReceive.txOut = s.txOut := rfl
@[simp] theorem State.armReceive_hostA (s : State) : s.armReceive.hostA = s.hostA := rfl
@[simp] theorem State.armReceive_pending (s : State) : s.armReceive.pending = s.pending := rfl
@[simp] theorem State.armReceive_resets (s : State) : s.armReceive.resets = s.resets := rfl

/-! ## rejectCommand (R93) -/

@[simp] theorem State.rejectCommand_cfg (s : State) (c : CmdCause) : (s.rejectCommand c).cfg = s.cfg := rfl
@[simp] theorem State.rejectCommand_crcAcc (s : State) (c : CmdCause) : (s.rejectCommand c).crcAcc = s.crcAcc := rfl
@[simp] theorem State.rejectCommand_rxState (s : State) (c : CmdCause) : (s.rejectCommand c).rxState = s.rxState := rfl
@[simp] theorem State.rejectCommand_rxBusy (s : State) (c : CmdCause) : (s.rejectCommand c).rxBusy = s.rxBusy := rfl
@[simp] theorem State.rejectCommand_rxDone (s : State) (c : CmdCause) : (s.rejectCommand c).rxDone = s.rxDone := rfl
@[simp] theorem State.rejectCommand_rxResult (s : State) (c : CmdCause) : (s.rejectCommand c).rxResult = s.rxResult := rfl
@[simp] theorem State.rejectCommand_rxSeq (s : State) (c : CmdCause) : (s.rejectCommand c).rxSeq = s.rxSeq := rfl
@[simp] theorem State.rejectCommand_rxLen (s : State) (c : CmdCause) : (s.rejectCommand c).rxLen = s.rxLen := rfl
@[simp] theorem State.rejectCommand_rxCnt (s : State) (c : CmdCause) : (s.rejectCommand c).rxCnt = s.rxCnt := rfl
@[simp] theorem State.rejectCommand_rxCrcAcc (s : State) (c : CmdCause) : (s.rejectCommand c).rxCrcAcc = s.rxCrcAcc := rfl
@[simp] theorem State.rejectCommand_rxCrcRecv (s : State) (c : CmdCause) : (s.rejectCommand c).rxCrcRecv = s.rxCrcRecv := rfl
@[simp] theorem State.rejectCommand_rxCrcCalc (s : State) (c : CmdCause) : (s.rejectCommand c).rxCrcCalc = s.rxCrcCalc := rfl
@[simp] theorem State.rejectCommand_rxBuf (s : State) (c : CmdCause) : (s.rejectCommand c).rxBuf = s.rxBuf := rfl
@[simp] theorem State.rejectCommand_rxTimer (s : State) (c : CmdCause) : (s.rejectCommand c).rxTimer = s.rxTimer := rfl
@[simp] theorem State.rejectCommand_txBusy (s : State) (c : CmdCause) : (s.rejectCommand c).txBusy = s.txBusy := rfl
@[simp] theorem State.rejectCommand_txDone (s : State) (c : CmdCause) : (s.rejectCommand c).txDone = s.txDone := rfl
@[simp] theorem State.rejectCommand_txErr (s : State) (c : CmdCause) : (s.rejectCommand c).txErr = s.txErr := rfl
@[simp] theorem State.rejectCommand_txSeq (s : State) (c : CmdCause) : (s.rejectCommand c).txSeq = s.txSeq := rfl
@[simp] theorem State.rejectCommand_txLen (s : State) (c : CmdCause) : (s.rejectCommand c).txLen = s.txLen := rfl
@[simp] theorem State.rejectCommand_txBuf (s : State) (c : CmdCause) : (s.rejectCommand c).txBuf = s.txBuf := rfl
@[simp] theorem State.rejectCommand_txIdx (s : State) (c : CmdCause) : (s.rejectCommand c).txIdx = s.txIdx := rfl
@[simp] theorem State.rejectCommand_txCrcAcc (s : State) (c : CmdCause) : (s.rejectCommand c).txCrcAcc = s.txCrcAcc := rfl
@[simp] theorem State.rejectCommand_cmdErr (s : State) (c : CmdCause) : (s.rejectCommand c).cmdErr = true := rfl
@[simp] theorem State.rejectCommand_cmdCause (s : State) (c : CmdCause) : (s.rejectCommand c).cmdCause = c := rfl
@[simp] theorem State.rejectCommand_health (s : State) (c : CmdCause) : (s.rejectCommand c).health = s.health := rfl
@[simp] theorem State.rejectCommand_rxQueue (s : State) (c : CmdCause) : (s.rejectCommand c).rxQueue = s.rxQueue := rfl
@[simp] theorem State.rejectCommand_txOut (s : State) (c : CmdCause) : (s.rejectCommand c).txOut = s.txOut := rfl
@[simp] theorem State.rejectCommand_hostA (s : State) (c : CmdCause) : (s.rejectCommand c).hostA = s.hostA := rfl
@[simp] theorem State.rejectCommand_pending (s : State) (c : CmdCause) : (s.rejectCommand c).pending = s.pending := rfl
@[simp] theorem State.rejectCommand_resets (s : State) (c : CmdCause) : (s.rejectCommand c).resets = s.resets := rfl

/-! ## beginFrame (R59) -/

@[simp] theorem State.beginFrame_cfg (s : State) : s.beginFrame.cfg = s.cfg := rfl
@[simp] theorem State.beginFrame_crcAcc (s : State) : s.beginFrame.crcAcc = s.crcAcc := rfl
@[simp] theorem State.beginFrame_rxState (s : State) : s.beginFrame.rxState = s.rxState := rfl
@[simp] theorem State.beginFrame_rxBusy (s : State) : s.beginFrame.rxBusy = s.rxBusy := rfl
@[simp] theorem State.beginFrame_rxDone (s : State) : s.beginFrame.rxDone = s.rxDone := rfl
@[simp] theorem State.beginFrame_rxResult (s : State) : s.beginFrame.rxResult = s.rxResult := rfl
@[simp] theorem State.beginFrame_rxSeq (s : State) : s.beginFrame.rxSeq = 0x00 := rfl
@[simp] theorem State.beginFrame_rxLen (s : State) : s.beginFrame.rxLen = 0x0000 := rfl
@[simp] theorem State.beginFrame_rxCnt (s : State) : s.beginFrame.rxCnt = 0 := rfl
@[simp] theorem State.beginFrame_rxCrcAcc (s : State) : s.beginFrame.rxCrcAcc = s.cfg.crc.init := rfl
@[simp] theorem State.beginFrame_rxCrcRecv (s : State) : s.beginFrame.rxCrcRecv = 0x0000 := rfl
@[simp] theorem State.beginFrame_rxCrcCalc (s : State) : s.beginFrame.rxCrcCalc = 0x0000 := rfl
@[simp] theorem State.beginFrame_rxBuf (s : State) : s.beginFrame.rxBuf = s.rxBuf := rfl
@[simp] theorem State.beginFrame_rxTimer (s : State) : s.beginFrame.rxTimer = s.rxTimer := rfl
@[simp] theorem State.beginFrame_txBusy (s : State) : s.beginFrame.txBusy = s.txBusy := rfl
@[simp] theorem State.beginFrame_txDone (s : State) : s.beginFrame.txDone = s.txDone := rfl
@[simp] theorem State.beginFrame_txErr (s : State) : s.beginFrame.txErr = s.txErr := rfl
@[simp] theorem State.beginFrame_txSeq (s : State) : s.beginFrame.txSeq = s.txSeq := rfl
@[simp] theorem State.beginFrame_txLen (s : State) : s.beginFrame.txLen = s.txLen := rfl
@[simp] theorem State.beginFrame_txBuf (s : State) : s.beginFrame.txBuf = s.txBuf := rfl
@[simp] theorem State.beginFrame_txIdx (s : State) : s.beginFrame.txIdx = s.txIdx := rfl
@[simp] theorem State.beginFrame_txCrcAcc (s : State) : s.beginFrame.txCrcAcc = s.txCrcAcc := rfl
@[simp] theorem State.beginFrame_cmdErr (s : State) : s.beginFrame.cmdErr = s.cmdErr := rfl
@[simp] theorem State.beginFrame_cmdCause (s : State) : s.beginFrame.cmdCause = s.cmdCause := rfl
@[simp] theorem State.beginFrame_health (s : State) : s.beginFrame.health = s.health := rfl
@[simp] theorem State.beginFrame_rxQueue (s : State) : s.beginFrame.rxQueue = s.rxQueue := rfl
@[simp] theorem State.beginFrame_txOut (s : State) : s.beginFrame.txOut = s.txOut := rfl
@[simp] theorem State.beginFrame_hostA (s : State) : s.beginFrame.hostA = s.hostA := rfl
@[simp] theorem State.beginFrame_pending (s : State) : s.beginFrame.pending = s.pending := rfl
@[simp] theorem State.beginFrame_resets (s : State) : s.beginFrame.resets = s.resets := rfl

/-! ## reload (R60) -/

@[simp] theorem State.reload_cfg (s : State) : s.reload.cfg = s.cfg := rfl
@[simp] theorem State.reload_crcAcc (s : State) : s.reload.crcAcc = s.crcAcc := rfl
@[simp] theorem State.reload_rxState (s : State) : s.reload.rxState = s.rxState := rfl
@[simp] theorem State.reload_rxBusy (s : State) : s.reload.rxBusy = s.rxBusy := rfl
@[simp] theorem State.reload_rxDone (s : State) : s.reload.rxDone = s.rxDone := rfl
@[simp] theorem State.reload_rxResult (s : State) : s.reload.rxResult = s.rxResult := rfl
@[simp] theorem State.reload_rxSeq (s : State) : s.reload.rxSeq = s.rxSeq := rfl
@[simp] theorem State.reload_rxLen (s : State) : s.reload.rxLen = s.rxLen := rfl
@[simp] theorem State.reload_rxCnt (s : State) : s.reload.rxCnt = s.rxCnt := rfl
@[simp] theorem State.reload_rxCrcAcc (s : State) : s.reload.rxCrcAcc = s.rxCrcAcc := rfl
@[simp] theorem State.reload_rxCrcRecv (s : State) : s.reload.rxCrcRecv = s.rxCrcRecv := rfl
@[simp] theorem State.reload_rxCrcCalc (s : State) : s.reload.rxCrcCalc = s.rxCrcCalc := rfl
@[simp] theorem State.reload_rxBuf (s : State) : s.reload.rxBuf = s.rxBuf := rfl
@[simp] theorem State.reload_rxTimer (s : State) : s.reload.rxTimer = timerValue (reloadTicks s.cfg s.rxState) := rfl
@[simp] theorem State.reload_txBusy (s : State) : s.reload.txBusy = s.txBusy := rfl
@[simp] theorem State.reload_txDone (s : State) : s.reload.txDone = s.txDone := rfl
@[simp] theorem State.reload_txErr (s : State) : s.reload.txErr = s.txErr := rfl
@[simp] theorem State.reload_txSeq (s : State) : s.reload.txSeq = s.txSeq := rfl
@[simp] theorem State.reload_txLen (s : State) : s.reload.txLen = s.txLen := rfl
@[simp] theorem State.reload_txBuf (s : State) : s.reload.txBuf = s.txBuf := rfl
@[simp] theorem State.reload_txIdx (s : State) : s.reload.txIdx = s.txIdx := rfl
@[simp] theorem State.reload_txCrcAcc (s : State) : s.reload.txCrcAcc = s.txCrcAcc := rfl
@[simp] theorem State.reload_cmdErr (s : State) : s.reload.cmdErr = s.cmdErr := rfl
@[simp] theorem State.reload_cmdCause (s : State) : s.reload.cmdCause = s.cmdCause := rfl
@[simp] theorem State.reload_health (s : State) : s.reload.health = s.health := rfl
@[simp] theorem State.reload_rxQueue (s : State) : s.reload.rxQueue = s.rxQueue := rfl
@[simp] theorem State.reload_txOut (s : State) : s.reload.txOut = s.txOut := rfl
@[simp] theorem State.reload_hostA (s : State) : s.reload.hostA = s.hostA := rfl
@[simp] theorem State.reload_pending (s : State) : s.reload.pending = s.pending := rfl
@[simp] theorem State.reload_resets (s : State) : s.reload.resets = s.resets := rfl

/-! ## feedRxCrc (R51) -/

@[simp] theorem State.feedRxCrc_cfg (s : State) (b : Byte) : (s.feedRxCrc b).cfg = s.cfg := rfl
@[simp] theorem State.feedRxCrc_crcAcc (s : State) (b : Byte) : (s.feedRxCrc b).crcAcc = s.crcAcc := rfl
@[simp] theorem State.feedRxCrc_rxState (s : State) (b : Byte) : (s.feedRxCrc b).rxState = s.rxState := rfl
@[simp] theorem State.feedRxCrc_rxBusy (s : State) (b : Byte) : (s.feedRxCrc b).rxBusy = s.rxBusy := rfl
@[simp] theorem State.feedRxCrc_rxDone (s : State) (b : Byte) : (s.feedRxCrc b).rxDone = s.rxDone := rfl
@[simp] theorem State.feedRxCrc_rxResult (s : State) (b : Byte) : (s.feedRxCrc b).rxResult = s.rxResult := rfl
@[simp] theorem State.feedRxCrc_rxSeq (s : State) (b : Byte) : (s.feedRxCrc b).rxSeq = s.rxSeq := rfl
@[simp] theorem State.feedRxCrc_rxLen (s : State) (b : Byte) : (s.feedRxCrc b).rxLen = s.rxLen := rfl
@[simp] theorem State.feedRxCrc_rxCnt (s : State) (b : Byte) : (s.feedRxCrc b).rxCnt = s.rxCnt := rfl
@[simp] theorem State.feedRxCrc_rxCrcAcc (s : State) (b : Byte) : (s.feedRxCrc b).rxCrcAcc = crcUpdate s.cfg.crc s.rxCrcAcc b := rfl
@[simp] theorem State.feedRxCrc_rxCrcRecv (s : State) (b : Byte) : (s.feedRxCrc b).rxCrcRecv = s.rxCrcRecv := rfl
@[simp] theorem State.feedRxCrc_rxCrcCalc (s : State) (b : Byte) : (s.feedRxCrc b).rxCrcCalc = s.rxCrcCalc := rfl
@[simp] theorem State.feedRxCrc_rxBuf (s : State) (b : Byte) : (s.feedRxCrc b).rxBuf = s.rxBuf := rfl
@[simp] theorem State.feedRxCrc_rxTimer (s : State) (b : Byte) : (s.feedRxCrc b).rxTimer = s.rxTimer := rfl
@[simp] theorem State.feedRxCrc_txBusy (s : State) (b : Byte) : (s.feedRxCrc b).txBusy = s.txBusy := rfl
@[simp] theorem State.feedRxCrc_txDone (s : State) (b : Byte) : (s.feedRxCrc b).txDone = s.txDone := rfl
@[simp] theorem State.feedRxCrc_txErr (s : State) (b : Byte) : (s.feedRxCrc b).txErr = s.txErr := rfl
@[simp] theorem State.feedRxCrc_txSeq (s : State) (b : Byte) : (s.feedRxCrc b).txSeq = s.txSeq := rfl
@[simp] theorem State.feedRxCrc_txLen (s : State) (b : Byte) : (s.feedRxCrc b).txLen = s.txLen := rfl
@[simp] theorem State.feedRxCrc_txBuf (s : State) (b : Byte) : (s.feedRxCrc b).txBuf = s.txBuf := rfl
@[simp] theorem State.feedRxCrc_txIdx (s : State) (b : Byte) : (s.feedRxCrc b).txIdx = s.txIdx := rfl
@[simp] theorem State.feedRxCrc_txCrcAcc (s : State) (b : Byte) : (s.feedRxCrc b).txCrcAcc = s.txCrcAcc := rfl
@[simp] theorem State.feedRxCrc_cmdErr (s : State) (b : Byte) : (s.feedRxCrc b).cmdErr = s.cmdErr := rfl
@[simp] theorem State.feedRxCrc_cmdCause (s : State) (b : Byte) : (s.feedRxCrc b).cmdCause = s.cmdCause := rfl
@[simp] theorem State.feedRxCrc_health (s : State) (b : Byte) : (s.feedRxCrc b).health = s.health := rfl
@[simp] theorem State.feedRxCrc_rxQueue (s : State) (b : Byte) : (s.feedRxCrc b).rxQueue = s.rxQueue := rfl
@[simp] theorem State.feedRxCrc_txOut (s : State) (b : Byte) : (s.feedRxCrc b).txOut = s.txOut := rfl
@[simp] theorem State.feedRxCrc_hostA (s : State) (b : Byte) : (s.feedRxCrc b).hostA = s.hostA := rfl
@[simp] theorem State.feedRxCrc_pending (s : State) (b : Byte) : (s.feedRxCrc b).pending = s.pending := rfl
@[simp] theorem State.feedRxCrc_resets (s : State) (b : Byte) : (s.feedRxCrc b).resets = s.resets := rfl

/-! ## countPayloadByte (R68) -/

@[simp] theorem State.countPayloadByte_cfg (s : State) : s.countPayloadByte.cfg = s.cfg := rfl
@[simp] theorem State.countPayloadByte_crcAcc (s : State) : s.countPayloadByte.crcAcc = s.crcAcc := rfl
@[simp] theorem State.countPayloadByte_rxState (s : State) : s.countPayloadByte.rxState = if (s.rxCnt + 1).toNat = s.rxLen.toNat then .crcLo else s.rxState := rfl
@[simp] theorem State.countPayloadByte_rxBusy (s : State) : s.countPayloadByte.rxBusy = s.rxBusy := rfl
@[simp] theorem State.countPayloadByte_rxDone (s : State) : s.countPayloadByte.rxDone = s.rxDone := rfl
@[simp] theorem State.countPayloadByte_rxResult (s : State) : s.countPayloadByte.rxResult = s.rxResult := rfl
@[simp] theorem State.countPayloadByte_rxSeq (s : State) : s.countPayloadByte.rxSeq = s.rxSeq := rfl
@[simp] theorem State.countPayloadByte_rxLen (s : State) : s.countPayloadByte.rxLen = s.rxLen := rfl
@[simp] theorem State.countPayloadByte_rxCnt (s : State) : s.countPayloadByte.rxCnt = s.rxCnt + 1 := rfl
@[simp] theorem State.countPayloadByte_rxCrcAcc (s : State) : s.countPayloadByte.rxCrcAcc = s.rxCrcAcc := rfl
@[simp] theorem State.countPayloadByte_rxCrcRecv (s : State) : s.countPayloadByte.rxCrcRecv = s.rxCrcRecv := rfl
@[simp] theorem State.countPayloadByte_rxCrcCalc (s : State) : s.countPayloadByte.rxCrcCalc = s.rxCrcCalc := rfl
@[simp] theorem State.countPayloadByte_rxBuf (s : State) : s.countPayloadByte.rxBuf = s.rxBuf := rfl
@[simp] theorem State.countPayloadByte_rxTimer (s : State) : s.countPayloadByte.rxTimer = s.rxTimer := rfl
@[simp] theorem State.countPayloadByte_txBusy (s : State) : s.countPayloadByte.txBusy = s.txBusy := rfl
@[simp] theorem State.countPayloadByte_txDone (s : State) : s.countPayloadByte.txDone = s.txDone := rfl
@[simp] theorem State.countPayloadByte_txErr (s : State) : s.countPayloadByte.txErr = s.txErr := rfl
@[simp] theorem State.countPayloadByte_txSeq (s : State) : s.countPayloadByte.txSeq = s.txSeq := rfl
@[simp] theorem State.countPayloadByte_txLen (s : State) : s.countPayloadByte.txLen = s.txLen := rfl
@[simp] theorem State.countPayloadByte_txBuf (s : State) : s.countPayloadByte.txBuf = s.txBuf := rfl
@[simp] theorem State.countPayloadByte_txIdx (s : State) : s.countPayloadByte.txIdx = s.txIdx := rfl
@[simp] theorem State.countPayloadByte_txCrcAcc (s : State) : s.countPayloadByte.txCrcAcc = s.txCrcAcc := rfl
@[simp] theorem State.countPayloadByte_cmdErr (s : State) : s.countPayloadByte.cmdErr = s.cmdErr := rfl
@[simp] theorem State.countPayloadByte_cmdCause (s : State) : s.countPayloadByte.cmdCause = s.cmdCause := rfl
@[simp] theorem State.countPayloadByte_health (s : State) : s.countPayloadByte.health = s.health := rfl
@[simp] theorem State.countPayloadByte_rxQueue (s : State) : s.countPayloadByte.rxQueue = s.rxQueue := rfl
@[simp] theorem State.countPayloadByte_txOut (s : State) : s.countPayloadByte.txOut = s.txOut := rfl
@[simp] theorem State.countPayloadByte_hostA (s : State) : s.countPayloadByte.hostA = s.hostA := rfl
@[simp] theorem State.countPayloadByte_pending (s : State) : s.countPayloadByte.pending = s.pending := rfl
@[simp] theorem State.countPayloadByte_resets (s : State) : s.countPayloadByte.resets = s.resets := rfl

/-! ## storeRxByte (R68) -/

@[simp] theorem State.storeRxByte_cfg (s : State) (i : Nat) (b : Byte) : (s.storeRxByte i b).cfg = s.cfg := rfl
@[simp] theorem State.storeRxByte_crcAcc (s : State) (i : Nat) (b : Byte) : (s.storeRxByte i b).crcAcc = s.crcAcc := rfl
@[simp] theorem State.storeRxByte_rxState (s : State) (i : Nat) (b : Byte) : (s.storeRxByte i b).rxState = s.rxState := rfl
@[simp] theorem State.storeRxByte_rxBusy (s : State) (i : Nat) (b : Byte) : (s.storeRxByte i b).rxBusy = s.rxBusy := rfl
@[simp] theorem State.storeRxByte_rxDone (s : State) (i : Nat) (b : Byte) : (s.storeRxByte i b).rxDone = s.rxDone := rfl
@[simp] theorem State.storeRxByte_rxResult (s : State) (i : Nat) (b : Byte) : (s.storeRxByte i b).rxResult = s.rxResult := rfl
@[simp] theorem State.storeRxByte_rxSeq (s : State) (i : Nat) (b : Byte) : (s.storeRxByte i b).rxSeq = s.rxSeq := rfl
@[simp] theorem State.storeRxByte_rxLen (s : State) (i : Nat) (b : Byte) : (s.storeRxByte i b).rxLen = s.rxLen := rfl
@[simp] theorem State.storeRxByte_rxCnt (s : State) (i : Nat) (b : Byte) : (s.storeRxByte i b).rxCnt = s.rxCnt := rfl
@[simp] theorem State.storeRxByte_rxCrcAcc (s : State) (i : Nat) (b : Byte) : (s.storeRxByte i b).rxCrcAcc = s.rxCrcAcc := rfl
@[simp] theorem State.storeRxByte_rxCrcRecv (s : State) (i : Nat) (b : Byte) : (s.storeRxByte i b).rxCrcRecv = s.rxCrcRecv := rfl
@[simp] theorem State.storeRxByte_rxCrcCalc (s : State) (i : Nat) (b : Byte) : (s.storeRxByte i b).rxCrcCalc = s.rxCrcCalc := rfl
@[simp] theorem State.storeRxByte_rxBuf (s : State) (i : Nat) (b : Byte) : (s.storeRxByte i b).rxBuf = bufferStore s.cfg.maxPayload s.rxBuf i b := rfl
@[simp] theorem State.storeRxByte_rxTimer (s : State) (i : Nat) (b : Byte) : (s.storeRxByte i b).rxTimer = s.rxTimer := rfl
@[simp] theorem State.storeRxByte_txBusy (s : State) (i : Nat) (b : Byte) : (s.storeRxByte i b).txBusy = s.txBusy := rfl
@[simp] theorem State.storeRxByte_txDone (s : State) (i : Nat) (b : Byte) : (s.storeRxByte i b).txDone = s.txDone := rfl
@[simp] theorem State.storeRxByte_txErr (s : State) (i : Nat) (b : Byte) : (s.storeRxByte i b).txErr = s.txErr := rfl
@[simp] theorem State.storeRxByte_txSeq (s : State) (i : Nat) (b : Byte) : (s.storeRxByte i b).txSeq = s.txSeq := rfl
@[simp] theorem State.storeRxByte_txLen (s : State) (i : Nat) (b : Byte) : (s.storeRxByte i b).txLen = s.txLen := rfl
@[simp] theorem State.storeRxByte_txBuf (s : State) (i : Nat) (b : Byte) : (s.storeRxByte i b).txBuf = s.txBuf := rfl
@[simp] theorem State.storeRxByte_txIdx (s : State) (i : Nat) (b : Byte) : (s.storeRxByte i b).txIdx = s.txIdx := rfl
@[simp] theorem State.storeRxByte_txCrcAcc (s : State) (i : Nat) (b : Byte) : (s.storeRxByte i b).txCrcAcc = s.txCrcAcc := rfl
@[simp] theorem State.storeRxByte_cmdErr (s : State) (i : Nat) (b : Byte) : (s.storeRxByte i b).cmdErr = s.cmdErr := rfl
@[simp] theorem State.storeRxByte_cmdCause (s : State) (i : Nat) (b : Byte) : (s.storeRxByte i b).cmdCause = s.cmdCause := rfl
@[simp] theorem State.storeRxByte_health (s : State) (i : Nat) (b : Byte) : (s.storeRxByte i b).health = s.health := rfl
@[simp] theorem State.storeRxByte_rxQueue (s : State) (i : Nat) (b : Byte) : (s.storeRxByte i b).rxQueue = s.rxQueue := rfl
@[simp] theorem State.storeRxByte_txOut (s : State) (i : Nat) (b : Byte) : (s.storeRxByte i b).txOut = s.txOut := rfl
@[simp] theorem State.storeRxByte_hostA (s : State) (i : Nat) (b : Byte) : (s.storeRxByte i b).hostA = s.hostA := rfl
@[simp] theorem State.storeRxByte_pending (s : State) (i : Nat) (b : Byte) : (s.storeRxByte i b).pending = s.pending := rfl
@[simp] theorem State.storeRxByte_resets (s : State) (i : Nat) (b : Byte) : (s.storeRxByte i b).resets = s.resets := rfl

/-! ## storeTxByte (R87) -/

@[simp] theorem State.storeTxByte_cfg (s : State) (i : Nat) (b : Byte) : (s.storeTxByte i b).cfg = s.cfg := rfl
@[simp] theorem State.storeTxByte_crcAcc (s : State) (i : Nat) (b : Byte) : (s.storeTxByte i b).crcAcc = s.crcAcc := rfl
@[simp] theorem State.storeTxByte_rxState (s : State) (i : Nat) (b : Byte) : (s.storeTxByte i b).rxState = s.rxState := rfl
@[simp] theorem State.storeTxByte_rxBusy (s : State) (i : Nat) (b : Byte) : (s.storeTxByte i b).rxBusy = s.rxBusy := rfl
@[simp] theorem State.storeTxByte_rxDone (s : State) (i : Nat) (b : Byte) : (s.storeTxByte i b).rxDone = s.rxDone := rfl
@[simp] theorem State.storeTxByte_rxResult (s : State) (i : Nat) (b : Byte) : (s.storeTxByte i b).rxResult = s.rxResult := rfl
@[simp] theorem State.storeTxByte_rxSeq (s : State) (i : Nat) (b : Byte) : (s.storeTxByte i b).rxSeq = s.rxSeq := rfl
@[simp] theorem State.storeTxByte_rxLen (s : State) (i : Nat) (b : Byte) : (s.storeTxByte i b).rxLen = s.rxLen := rfl
@[simp] theorem State.storeTxByte_rxCnt (s : State) (i : Nat) (b : Byte) : (s.storeTxByte i b).rxCnt = s.rxCnt := rfl
@[simp] theorem State.storeTxByte_rxCrcAcc (s : State) (i : Nat) (b : Byte) : (s.storeTxByte i b).rxCrcAcc = s.rxCrcAcc := rfl
@[simp] theorem State.storeTxByte_rxCrcRecv (s : State) (i : Nat) (b : Byte) : (s.storeTxByte i b).rxCrcRecv = s.rxCrcRecv := rfl
@[simp] theorem State.storeTxByte_rxCrcCalc (s : State) (i : Nat) (b : Byte) : (s.storeTxByte i b).rxCrcCalc = s.rxCrcCalc := rfl
@[simp] theorem State.storeTxByte_rxBuf (s : State) (i : Nat) (b : Byte) : (s.storeTxByte i b).rxBuf = s.rxBuf := rfl
@[simp] theorem State.storeTxByte_rxTimer (s : State) (i : Nat) (b : Byte) : (s.storeTxByte i b).rxTimer = s.rxTimer := rfl
@[simp] theorem State.storeTxByte_txBusy (s : State) (i : Nat) (b : Byte) : (s.storeTxByte i b).txBusy = s.txBusy := rfl
@[simp] theorem State.storeTxByte_txDone (s : State) (i : Nat) (b : Byte) : (s.storeTxByte i b).txDone = s.txDone := rfl
@[simp] theorem State.storeTxByte_txErr (s : State) (i : Nat) (b : Byte) : (s.storeTxByte i b).txErr = s.txErr := rfl
@[simp] theorem State.storeTxByte_txSeq (s : State) (i : Nat) (b : Byte) : (s.storeTxByte i b).txSeq = s.txSeq := rfl
@[simp] theorem State.storeTxByte_txLen (s : State) (i : Nat) (b : Byte) : (s.storeTxByte i b).txLen = s.txLen := rfl
@[simp] theorem State.storeTxByte_txBuf (s : State) (i : Nat) (b : Byte) : (s.storeTxByte i b).txBuf = bufferStore s.cfg.maxPayload s.txBuf i b := rfl
@[simp] theorem State.storeTxByte_txIdx (s : State) (i : Nat) (b : Byte) : (s.storeTxByte i b).txIdx = s.txIdx := rfl
@[simp] theorem State.storeTxByte_txCrcAcc (s : State) (i : Nat) (b : Byte) : (s.storeTxByte i b).txCrcAcc = s.txCrcAcc := rfl
@[simp] theorem State.storeTxByte_cmdErr (s : State) (i : Nat) (b : Byte) : (s.storeTxByte i b).cmdErr = s.cmdErr := rfl
@[simp] theorem State.storeTxByte_cmdCause (s : State) (i : Nat) (b : Byte) : (s.storeTxByte i b).cmdCause = s.cmdCause := rfl
@[simp] theorem State.storeTxByte_health (s : State) (i : Nat) (b : Byte) : (s.storeTxByte i b).health = s.health := rfl
@[simp] theorem State.storeTxByte_rxQueue (s : State) (i : Nat) (b : Byte) : (s.storeTxByte i b).rxQueue = s.rxQueue := rfl
@[simp] theorem State.storeTxByte_txOut (s : State) (i : Nat) (b : Byte) : (s.storeTxByte i b).txOut = s.txOut := rfl
@[simp] theorem State.storeTxByte_hostA (s : State) (i : Nat) (b : Byte) : (s.storeTxByte i b).hostA = s.hostA := rfl
@[simp] theorem State.storeTxByte_pending (s : State) (i : Nat) (b : Byte) : (s.storeTxByte i b).pending = s.pending := rfl
@[simp] theorem State.storeTxByte_resets (s : State) (i : Nat) (b : Byte) : (s.storeTxByte i b).resets = s.resets := rfl

/-! ## startSend (R78) -/

@[simp] theorem State.startSend_cfg (s : State) : s.startSend.cfg = s.cfg := rfl
@[simp] theorem State.startSend_crcAcc (s : State) : s.startSend.crcAcc = s.crcAcc := rfl
@[simp] theorem State.startSend_rxState (s : State) : s.startSend.rxState = s.rxState := rfl
@[simp] theorem State.startSend_rxBusy (s : State) : s.startSend.rxBusy = s.rxBusy := rfl
@[simp] theorem State.startSend_rxDone (s : State) : s.startSend.rxDone = s.rxDone := rfl
@[simp] theorem State.startSend_rxResult (s : State) : s.startSend.rxResult = s.rxResult := rfl
@[simp] theorem State.startSend_rxSeq (s : State) : s.startSend.rxSeq = s.rxSeq := rfl
@[simp] theorem State.startSend_rxLen (s : State) : s.startSend.rxLen = s.rxLen := rfl
@[simp] theorem State.startSend_rxCnt (s : State) : s.startSend.rxCnt = s.rxCnt := rfl
@[simp] theorem State.startSend_rxCrcAcc (s : State) : s.startSend.rxCrcAcc = s.rxCrcAcc := rfl
@[simp] theorem State.startSend_rxCrcRecv (s : State) : s.startSend.rxCrcRecv = s.rxCrcRecv := rfl
@[simp] theorem State.startSend_rxCrcCalc (s : State) : s.startSend.rxCrcCalc = s.rxCrcCalc := rfl
@[simp] theorem State.startSend_rxBuf (s : State) : s.startSend.rxBuf = s.rxBuf := rfl
@[simp] theorem State.startSend_rxTimer (s : State) : s.startSend.rxTimer = s.rxTimer := rfl
@[simp] theorem State.startSend_txBusy (s : State) : s.startSend.txBusy = true := rfl
@[simp] theorem State.startSend_txDone (s : State) : s.startSend.txDone = false := rfl
@[simp] theorem State.startSend_txErr (s : State) : s.startSend.txErr = s.txErr := rfl
@[simp] theorem State.startSend_txSeq (s : State) : s.startSend.txSeq = s.txSeq := rfl
@[simp] theorem State.startSend_txLen (s : State) : s.startSend.txLen = s.txLen := rfl
@[simp] theorem State.startSend_txBuf (s : State) : s.startSend.txBuf = s.txBuf := rfl
@[simp] theorem State.startSend_txIdx (s : State) : s.startSend.txIdx = 0 := rfl
@[simp] theorem State.startSend_txCrcAcc (s : State) : s.startSend.txCrcAcc = s.cfg.crc.init := rfl
@[simp] theorem State.startSend_cmdErr (s : State) : s.startSend.cmdErr = s.cmdErr := rfl
@[simp] theorem State.startSend_cmdCause (s : State) : s.startSend.cmdCause = s.cmdCause := rfl
@[simp] theorem State.startSend_health (s : State) : s.startSend.health = s.health := rfl
@[simp] theorem State.startSend_rxQueue (s : State) : s.startSend.rxQueue = s.rxQueue := rfl
@[simp] theorem State.startSend_txOut (s : State) : s.startSend.txOut = s.txOut := rfl
@[simp] theorem State.startSend_hostA (s : State) : s.startSend.hostA = s.hostA := rfl
@[simp] theorem State.startSend_pending (s : State) : s.startSend.pending = s.pending := rfl
@[simp] theorem State.startSend_resets (s : State) : s.startSend.resets = s.resets := rfl

/-! ## txPush (R12) -/

@[simp] theorem State.txPush_cfg (s : State) (b : Byte) : (s.txPush b).cfg = s.cfg := rfl
@[simp] theorem State.txPush_crcAcc (s : State) (b : Byte) : (s.txPush b).crcAcc = s.crcAcc := rfl
@[simp] theorem State.txPush_rxState (s : State) (b : Byte) : (s.txPush b).rxState = s.rxState := rfl
@[simp] theorem State.txPush_rxBusy (s : State) (b : Byte) : (s.txPush b).rxBusy = s.rxBusy := rfl
@[simp] theorem State.txPush_rxDone (s : State) (b : Byte) : (s.txPush b).rxDone = s.rxDone := rfl
@[simp] theorem State.txPush_rxResult (s : State) (b : Byte) : (s.txPush b).rxResult = s.rxResult := rfl
@[simp] theorem State.txPush_rxSeq (s : State) (b : Byte) : (s.txPush b).rxSeq = s.rxSeq := rfl
@[simp] theorem State.txPush_rxLen (s : State) (b : Byte) : (s.txPush b).rxLen = s.rxLen := rfl
@[simp] theorem State.txPush_rxCnt (s : State) (b : Byte) : (s.txPush b).rxCnt = s.rxCnt := rfl
@[simp] theorem State.txPush_rxCrcAcc (s : State) (b : Byte) : (s.txPush b).rxCrcAcc = s.rxCrcAcc := rfl
@[simp] theorem State.txPush_rxCrcRecv (s : State) (b : Byte) : (s.txPush b).rxCrcRecv = s.rxCrcRecv := rfl
@[simp] theorem State.txPush_rxCrcCalc (s : State) (b : Byte) : (s.txPush b).rxCrcCalc = s.rxCrcCalc := rfl
@[simp] theorem State.txPush_rxBuf (s : State) (b : Byte) : (s.txPush b).rxBuf = s.rxBuf := rfl
@[simp] theorem State.txPush_rxTimer (s : State) (b : Byte) : (s.txPush b).rxTimer = s.rxTimer := rfl
@[simp] theorem State.txPush_txBusy (s : State) (b : Byte) : (s.txPush b).txBusy = s.txBusy := rfl
@[simp] theorem State.txPush_txDone (s : State) (b : Byte) : (s.txPush b).txDone = s.txDone := rfl
@[simp] theorem State.txPush_txErr (s : State) (b : Byte) : (s.txPush b).txErr = s.txErr := rfl
@[simp] theorem State.txPush_txSeq (s : State) (b : Byte) : (s.txPush b).txSeq = s.txSeq := rfl
@[simp] theorem State.txPush_txLen (s : State) (b : Byte) : (s.txPush b).txLen = s.txLen := rfl
@[simp] theorem State.txPush_txBuf (s : State) (b : Byte) : (s.txPush b).txBuf = s.txBuf := rfl
@[simp] theorem State.txPush_txIdx (s : State) (b : Byte) : (s.txPush b).txIdx = s.txIdx := rfl
@[simp] theorem State.txPush_txCrcAcc (s : State) (b : Byte) : (s.txPush b).txCrcAcc = s.txCrcAcc := rfl
@[simp] theorem State.txPush_cmdErr (s : State) (b : Byte) : (s.txPush b).cmdErr = s.cmdErr := rfl
@[simp] theorem State.txPush_cmdCause (s : State) (b : Byte) : (s.txPush b).cmdCause = s.cmdCause := rfl
@[simp] theorem State.txPush_health (s : State) (b : Byte) : (s.txPush b).health = s.health := rfl
@[simp] theorem State.txPush_rxQueue (s : State) (b : Byte) : (s.txPush b).rxQueue = s.rxQueue := rfl
@[simp] theorem State.txPush_txOut (s : State) (b : Byte) : (s.txPush b).txOut = s.txOut ++ [b] := rfl
@[simp] theorem State.txPush_hostA (s : State) (b : Byte) : (s.txPush b).hostA = s.hostA := rfl
@[simp] theorem State.txPush_pending (s : State) (b : Byte) : (s.txPush b).pending = s.pending := rfl
@[simp] theorem State.txPush_resets (s : State) (b : Byte) : (s.txPush b).resets = s.resets := rfl

/-! ## rxArrive (R12) -/

@[simp] theorem State.rxArrive_cfg (s : State) (bytes : List Byte) : (s.rxArrive bytes).cfg = s.cfg := rfl
@[simp] theorem State.rxArrive_crcAcc (s : State) (bytes : List Byte) : (s.rxArrive bytes).crcAcc = s.crcAcc := rfl
@[simp] theorem State.rxArrive_rxState (s : State) (bytes : List Byte) : (s.rxArrive bytes).rxState = s.rxState := rfl
@[simp] theorem State.rxArrive_rxBusy (s : State) (bytes : List Byte) : (s.rxArrive bytes).rxBusy = s.rxBusy := rfl
@[simp] theorem State.rxArrive_rxDone (s : State) (bytes : List Byte) : (s.rxArrive bytes).rxDone = s.rxDone := rfl
@[simp] theorem State.rxArrive_rxResult (s : State) (bytes : List Byte) : (s.rxArrive bytes).rxResult = s.rxResult := rfl
@[simp] theorem State.rxArrive_rxSeq (s : State) (bytes : List Byte) : (s.rxArrive bytes).rxSeq = s.rxSeq := rfl
@[simp] theorem State.rxArrive_rxLen (s : State) (bytes : List Byte) : (s.rxArrive bytes).rxLen = s.rxLen := rfl
@[simp] theorem State.rxArrive_rxCnt (s : State) (bytes : List Byte) : (s.rxArrive bytes).rxCnt = s.rxCnt := rfl
@[simp] theorem State.rxArrive_rxCrcAcc (s : State) (bytes : List Byte) : (s.rxArrive bytes).rxCrcAcc = s.rxCrcAcc := rfl
@[simp] theorem State.rxArrive_rxCrcRecv (s : State) (bytes : List Byte) : (s.rxArrive bytes).rxCrcRecv = s.rxCrcRecv := rfl
@[simp] theorem State.rxArrive_rxCrcCalc (s : State) (bytes : List Byte) : (s.rxArrive bytes).rxCrcCalc = s.rxCrcCalc := rfl
@[simp] theorem State.rxArrive_rxBuf (s : State) (bytes : List Byte) : (s.rxArrive bytes).rxBuf = s.rxBuf := rfl
@[simp] theorem State.rxArrive_rxTimer (s : State) (bytes : List Byte) : (s.rxArrive bytes).rxTimer = s.rxTimer := rfl
@[simp] theorem State.rxArrive_txBusy (s : State) (bytes : List Byte) : (s.rxArrive bytes).txBusy = s.txBusy := rfl
@[simp] theorem State.rxArrive_txDone (s : State) (bytes : List Byte) : (s.rxArrive bytes).txDone = s.txDone := rfl
@[simp] theorem State.rxArrive_txErr (s : State) (bytes : List Byte) : (s.rxArrive bytes).txErr = s.txErr := rfl
@[simp] theorem State.rxArrive_txSeq (s : State) (bytes : List Byte) : (s.rxArrive bytes).txSeq = s.txSeq := rfl
@[simp] theorem State.rxArrive_txLen (s : State) (bytes : List Byte) : (s.rxArrive bytes).txLen = s.txLen := rfl
@[simp] theorem State.rxArrive_txBuf (s : State) (bytes : List Byte) : (s.rxArrive bytes).txBuf = s.txBuf := rfl
@[simp] theorem State.rxArrive_txIdx (s : State) (bytes : List Byte) : (s.rxArrive bytes).txIdx = s.txIdx := rfl
@[simp] theorem State.rxArrive_txCrcAcc (s : State) (bytes : List Byte) : (s.rxArrive bytes).txCrcAcc = s.txCrcAcc := rfl
@[simp] theorem State.rxArrive_cmdErr (s : State) (bytes : List Byte) : (s.rxArrive bytes).cmdErr = s.cmdErr := rfl
@[simp] theorem State.rxArrive_cmdCause (s : State) (bytes : List Byte) : (s.rxArrive bytes).cmdCause = s.cmdCause := rfl
@[simp] theorem State.rxArrive_health (s : State) (bytes : List Byte) : (s.rxArrive bytes).health = s.health := rfl
@[simp] theorem State.rxArrive_rxQueue (s : State) (bytes : List Byte) : (s.rxArrive bytes).rxQueue = s.rxQueue ++ bytes := rfl
@[simp] theorem State.rxArrive_txOut (s : State) (bytes : List Byte) : (s.rxArrive bytes).txOut = s.txOut := rfl
@[simp] theorem State.rxArrive_hostA (s : State) (bytes : List Byte) : (s.rxArrive bytes).hostA = s.hostA := rfl
@[simp] theorem State.rxArrive_pending (s : State) (bytes : List Byte) : (s.rxArrive bytes).pending = s.pending := rfl
@[simp] theorem State.rxArrive_resets (s : State) (bytes : List Byte) : (s.rxArrive bytes).resets = s.resets := rfl

/-! ## hostReads (R28) -/

@[simp] theorem State.hostReads_cfg (s : State) (v : Word) : (s.hostReads v).cfg = s.cfg := rfl
@[simp] theorem State.hostReads_crcAcc (s : State) (v : Word) : (s.hostReads v).crcAcc = s.crcAcc := rfl
@[simp] theorem State.hostReads_rxState (s : State) (v : Word) : (s.hostReads v).rxState = s.rxState := rfl
@[simp] theorem State.hostReads_rxBusy (s : State) (v : Word) : (s.hostReads v).rxBusy = s.rxBusy := rfl
@[simp] theorem State.hostReads_rxDone (s : State) (v : Word) : (s.hostReads v).rxDone = s.rxDone := rfl
@[simp] theorem State.hostReads_rxResult (s : State) (v : Word) : (s.hostReads v).rxResult = s.rxResult := rfl
@[simp] theorem State.hostReads_rxSeq (s : State) (v : Word) : (s.hostReads v).rxSeq = s.rxSeq := rfl
@[simp] theorem State.hostReads_rxLen (s : State) (v : Word) : (s.hostReads v).rxLen = s.rxLen := rfl
@[simp] theorem State.hostReads_rxCnt (s : State) (v : Word) : (s.hostReads v).rxCnt = s.rxCnt := rfl
@[simp] theorem State.hostReads_rxCrcAcc (s : State) (v : Word) : (s.hostReads v).rxCrcAcc = s.rxCrcAcc := rfl
@[simp] theorem State.hostReads_rxCrcRecv (s : State) (v : Word) : (s.hostReads v).rxCrcRecv = s.rxCrcRecv := rfl
@[simp] theorem State.hostReads_rxCrcCalc (s : State) (v : Word) : (s.hostReads v).rxCrcCalc = s.rxCrcCalc := rfl
@[simp] theorem State.hostReads_rxBuf (s : State) (v : Word) : (s.hostReads v).rxBuf = s.rxBuf := rfl
@[simp] theorem State.hostReads_rxTimer (s : State) (v : Word) : (s.hostReads v).rxTimer = s.rxTimer := rfl
@[simp] theorem State.hostReads_txBusy (s : State) (v : Word) : (s.hostReads v).txBusy = s.txBusy := rfl
@[simp] theorem State.hostReads_txDone (s : State) (v : Word) : (s.hostReads v).txDone = s.txDone := rfl
@[simp] theorem State.hostReads_txErr (s : State) (v : Word) : (s.hostReads v).txErr = s.txErr := rfl
@[simp] theorem State.hostReads_txSeq (s : State) (v : Word) : (s.hostReads v).txSeq = s.txSeq := rfl
@[simp] theorem State.hostReads_txLen (s : State) (v : Word) : (s.hostReads v).txLen = s.txLen := rfl
@[simp] theorem State.hostReads_txBuf (s : State) (v : Word) : (s.hostReads v).txBuf = s.txBuf := rfl
@[simp] theorem State.hostReads_txIdx (s : State) (v : Word) : (s.hostReads v).txIdx = s.txIdx := rfl
@[simp] theorem State.hostReads_txCrcAcc (s : State) (v : Word) : (s.hostReads v).txCrcAcc = s.txCrcAcc := rfl
@[simp] theorem State.hostReads_cmdErr (s : State) (v : Word) : (s.hostReads v).cmdErr = s.cmdErr := rfl
@[simp] theorem State.hostReads_cmdCause (s : State) (v : Word) : (s.hostReads v).cmdCause = s.cmdCause := rfl
@[simp] theorem State.hostReads_health (s : State) (v : Word) : (s.hostReads v).health = s.health := rfl
@[simp] theorem State.hostReads_rxQueue (s : State) (v : Word) : (s.hostReads v).rxQueue = s.rxQueue := rfl
@[simp] theorem State.hostReads_txOut (s : State) (v : Word) : (s.hostReads v).txOut = s.txOut := rfl
@[simp] theorem State.hostReads_hostA (s : State) (v : Word) : (s.hostReads v).hostA = v := rfl
@[simp] theorem State.hostReads_pending (s : State) (v : Word) : (s.hostReads v).pending = s.pending := rfl
@[simp] theorem State.hostReads_resets (s : State) (v : Word) : (s.hostReads v).resets = s.resets := rfl

/-! ## clearStatus (R85) -/

@[simp] theorem State.clearStatus_cfg (s : State) (v : Word) : (s.clearStatus v).cfg = s.cfg := rfl
@[simp] theorem State.clearStatus_crcAcc (s : State) (v : Word) : (s.clearStatus v).crcAcc = s.crcAcc := rfl
@[simp] theorem State.clearStatus_rxState (s : State) (v : Word) : (s.clearStatus v).rxState = s.rxState := rfl
@[simp] theorem State.clearStatus_rxBusy (s : State) (v : Word) : (s.clearStatus v).rxBusy = s.rxBusy := rfl
@[simp] theorem State.clearStatus_rxDone (s : State) (v : Word) : (s.clearStatus v).rxDone = (s.rxDone && !v.getLsbD 1) := rfl
@[simp] theorem State.clearStatus_rxResult (s : State) (v : Word) : (s.clearStatus v).rxResult = s.rxResult := rfl
@[simp] theorem State.clearStatus_rxSeq (s : State) (v : Word) : (s.clearStatus v).rxSeq = s.rxSeq := rfl
@[simp] theorem State.clearStatus_rxLen (s : State) (v : Word) : (s.clearStatus v).rxLen = s.rxLen := rfl
@[simp] theorem State.clearStatus_rxCnt (s : State) (v : Word) : (s.clearStatus v).rxCnt = s.rxCnt := rfl
@[simp] theorem State.clearStatus_rxCrcAcc (s : State) (v : Word) : (s.clearStatus v).rxCrcAcc = s.rxCrcAcc := rfl
@[simp] theorem State.clearStatus_rxCrcRecv (s : State) (v : Word) : (s.clearStatus v).rxCrcRecv = s.rxCrcRecv := rfl
@[simp] theorem State.clearStatus_rxCrcCalc (s : State) (v : Word) : (s.clearStatus v).rxCrcCalc = s.rxCrcCalc := rfl
@[simp] theorem State.clearStatus_rxBuf (s : State) (v : Word) : (s.clearStatus v).rxBuf = s.rxBuf := rfl
@[simp] theorem State.clearStatus_rxTimer (s : State) (v : Word) : (s.clearStatus v).rxTimer = s.rxTimer := rfl
@[simp] theorem State.clearStatus_txBusy (s : State) (v : Word) : (s.clearStatus v).txBusy = s.txBusy := rfl
@[simp] theorem State.clearStatus_txDone (s : State) (v : Word) : (s.clearStatus v).txDone = (s.txDone && !v.getLsbD 3) := rfl
@[simp] theorem State.clearStatus_txErr (s : State) (v : Word) : (s.clearStatus v).txErr = (s.txErr && !v.getLsbD 5) := rfl
@[simp] theorem State.clearStatus_txSeq (s : State) (v : Word) : (s.clearStatus v).txSeq = s.txSeq := rfl
@[simp] theorem State.clearStatus_txLen (s : State) (v : Word) : (s.clearStatus v).txLen = s.txLen := rfl
@[simp] theorem State.clearStatus_txBuf (s : State) (v : Word) : (s.clearStatus v).txBuf = s.txBuf := rfl
@[simp] theorem State.clearStatus_txIdx (s : State) (v : Word) : (s.clearStatus v).txIdx = s.txIdx := rfl
@[simp] theorem State.clearStatus_txCrcAcc (s : State) (v : Word) : (s.clearStatus v).txCrcAcc = s.txCrcAcc := rfl
@[simp] theorem State.clearStatus_cmdErr (s : State) (v : Word) : (s.clearStatus v).cmdErr = (s.cmdErr && !v.getLsbD 4) := rfl
@[simp] theorem State.clearStatus_cmdCause (s : State) (v : Word) : (s.clearStatus v).cmdCause = if v.getLsbD 4 then .none else s.cmdCause := rfl
@[simp] theorem State.clearStatus_health (s : State) (v : Word) : (s.clearStatus v).health = s.health := rfl
@[simp] theorem State.clearStatus_rxQueue (s : State) (v : Word) : (s.clearStatus v).rxQueue = s.rxQueue := rfl
@[simp] theorem State.clearStatus_txOut (s : State) (v : Word) : (s.clearStatus v).txOut = s.txOut := rfl
@[simp] theorem State.clearStatus_hostA (s : State) (v : Word) : (s.clearStatus v).hostA = s.hostA := rfl
@[simp] theorem State.clearStatus_pending (s : State) (v : Word) : (s.clearStatus v).pending = s.pending := rfl
@[simp] theorem State.clearStatus_resets (s : State) (v : Word) : (s.clearStatus v).resets = s.resets := rfl

end Sys2Proof.Machine
end

