-- ==== Sys2Proof/Laws/Ops.lean ====
section
/-! SUPPORT. For each shared operation, what it can do, said once: later proofs cite these and do not unfold the operation. -/
namespace Sys2Proof.Machine

/-! ## Reading a buffer byte after a store -/

theorem State.rxByte_storeRxByte (s : State) (i k : Nat) (b : Byte) :
    (s.storeRxByte i b).rxByte k = if k = i then (if i < s.cfg.maxPayload then b else 0) else s.rxByte k := by
  unfold State.rxByte
  split
  · next h => subst h; simp [bufferByte_bufferStore_same]
  · next h => simp [bufferByte_bufferStore_other _ _ _ _ _ _ h]

theorem State.txByte_storeTxByte (s : State) (i k : Nat) (b : Byte) :
    (s.storeTxByte i b).txByte k = if k = i then (if i < s.cfg.maxPayload then b else 0) else s.txByte k := by
  unfold State.txByte
  split
  · next h => subst h; simp [bufferByte_bufferStore_same]
  · next h => simp [bufferByte_bufferStore_other _ _ _ _ _ _ h]

@[simp] theorem State.rxByte_storeTxByte (s : State) (i k : Nat) (b : Byte) : (s.storeTxByte i b).rxByte k = s.rxByte k := rfl

@[simp] theorem State.txByte_storeRxByte (s : State) (i k : Nat) (b : Byte) : (s.storeRxByte i b).txByte k = s.txByte k := rfl

/-- A buffer byte depends on the buffer, the draw and the parameters only. -/
theorem State.rxByte_congr (s t : State) (hc : t.cfg = s.cfg) (hb : t.rxBuf = s.rxBuf) (hr : t.resets = s.resets) (k : Nat) :
    t.rxByte k = s.rxByte k := by
  simp [State.rxByte, hc, hb, hr]

theorem State.txByte_congr (s t : State) (hc : t.cfg = s.cfg) (hb : t.txBuf = s.txBuf) (hr : t.resets = s.resets) (k : Nat) :
    t.txByte k = s.txByte k := by
  simp [State.txByte, hc, hb, hr]

/-- A word store writes `tx_buf` and nothing else. -/
theorem State.storeTxWord_eq (s : State) (i : Nat) (v : Word) :
    s.storeTxWord i v =
      { s with
        txBuf := bufferStore s.cfg.maxPayload (bufferStore s.cfg.maxPayload (bufferStore s.cfg.maxPayload
          (bufferStore s.cfg.maxPayload s.txBuf i (byteLane v 0)) (i + 1) (byteLane v 1)) (i + 2) (byteLane v 2))
          (i + 3) (byteLane v 3) } := by
  simp only [State.storeTxWord, State.storeTxByte]

/-- Bytes that arrive in one step leave what they leave when they arrive in two (log 19). -/
theorem State.rxArrive_append (s : State) (as bs : List Byte) : s.rxArrive (as ++ bs) = (s.rxArrive as).rxArrive bs := by
  simp [State.rxArrive]

/-- The buffers of the reset state are in canonical form. -/
theorem State.resetWith_buffers_wf (c : Config) :
    Memory.wf (State.resetWith c).rxBuf = true ∧ Memory.wf (State.resetWith c).txBuf = true := ⟨rfl, rfl⟩

/-- Every store to a buffer keeps its canonical form. -/
theorem State.storeRxByte_wf (s : State) (i : Nat) (b : Byte) (h : Memory.wf s.rxBuf = true) :
    Memory.wf (s.storeRxByte i b).rxBuf = true := bufferStore_wf _ _ _ _ h

theorem State.storeTxByte_wf (s : State) (i : Nat) (b : Byte) (h : Memory.wf s.txBuf = true) :
    Memory.wf (s.storeTxByte i b).txBuf = true := bufferStore_wf _ _ _ _ h

theorem State.storeTxWord_wf (s : State) (i : Nat) (v : Word) (h : Memory.wf s.txBuf = true) :
    Memory.wf (s.storeTxWord i v).txBuf = true := by
  unfold State.storeTxWord
  exact State.storeTxByte_wf _ _ _ (State.storeTxByte_wf _ _ _ (State.storeTxByte_wf _ _ _ (State.storeTxByte_wf _ _ _ h)))

/-- A buffer byte after a word store: the word's lane inside it, as before outside it. -/
theorem State.txByte_storeTxWord (s : State) (i j : Nat) (v : Word) :
    (s.storeTxWord i v).txByte j =
      if i ≤ j ∧ j < i + 4 then (if j < s.cfg.maxPayload then byteLane v (j - i) else 0) else s.txByte j := by
  unfold State.storeTxWord
  simp only [State.txByte_storeTxByte]
  by_cases h : i ≤ j ∧ j < i + 4
  · obtain ⟨k, rfl⟩ := Nat.exists_eq_add_of_le h.1
    have hk : k = 0 ∨ k = 1 ∨ k = 2 ∨ k = 3 := by omega
    rcases hk with rfl | rfl | rfl | rfl <;> simp [State.storeTxByte] <;> rfl
  · have h0 : j ≠ i := by omega
    have h1 : j ≠ i + 1 := by omega
    have h2 : j ≠ i + 2 := by omega
    have h3 : j ≠ i + 3 := by omega
    simp [h, h0, h1, h2, h3]

/-! ## Sequencing -/

/-- Two operations in one step end in a next state exactly when both do. -/
theorem chain_eq_next (r : Result) (f : State → Result) (t : State) :
    chain r f = .next t ↔ ∃ m, r = .next m ∧ f m = .next t := by
  cases r <;> simp [chain]

/-! ## Receive rows -/

theorem dataByteApplies_eq_true (st : RxState) (d : Byte) (s : State) :
    dataByteApplies st d s = true ↔ s.rxBusy = true ∧ s.rxState = st ∧ d ≠ s.cfg.startByte := by
  simp [dataByteApplies, and_assoc]

/-- A data-byte row always ends in a next state: its effect where its condition holds, else the same state. -/
theorem onDataByte_cases (st : RxState) (d : Byte) (f : State → State) (s t : State) (h : onDataByte st d f s = .next t) :
    (s.rxBusy = true ∧ s.rxState = st ∧ d ≠ s.cfg.startByte ∧ t = f s) ∨ t = s := by
  unfold onDataByte at h
  split at h
  · next ha =>
    obtain ⟨hb, hs, hd⟩ := (dataByteApplies_eq_true st d s).1 ha
    exact .inl ⟨hb, hs, hd, (Host.Outcome.next.inj h).symm⟩
  · exact .inr (Host.Outcome.next.inj h).symm

/-- The declared length has exactly one of three outcomes (R67). -/
theorem State.lengthDeclared_cases (s : State) :
    (s.cfg.maxPayload < s.rxLen.toNat ∧ s.lengthDeclared = s.postResult .overflowError) ∨
    (s.rxLen.toNat ≤ s.cfg.maxPayload ∧ s.rxLen = 0 ∧ s.lengthDeclared = State.reload { s with rxState := .crcLo }) ∨
    (s.rxLen.toNat ≤ s.cfg.maxPayload ∧ s.rxLen ≠ 0 ∧ s.lengthDeclared = State.reload { s with rxState := .payload }) := by
  unfold State.lengthDeclared
  split
  · next h => exact .inl ⟨h, rfl⟩
  · next h =>
    split
    · next h0 => exact .inr (.inl ⟨by omega, h0, rfl⟩)
    · next h0 => exact .inr (.inr ⟨by omega, h0, rfl⟩)

/-- The checksum check has exactly one of two outcomes (R70). -/
theorem State.checkChecksum_cases (s : State) :
    (s.rxCrcCalc = s.rxCrcRecv ∧ s.checkChecksum = State.postResult { s with health := .ok } .frame) ∨
    (s.rxCrcCalc ≠ s.rxCrcRecv ∧ s.checkChecksum = State.postResult { s with health := .fail } .checksumError) := by
  unfold State.checkChecksum
  split
  · next h => exact .inl ⟨h, rfl⟩
  · next h => exact .inr ⟨h, rfl⟩

/-- RECV ends in a next state: rejected while armed, else armed (R61). -/
theorem execRecv_cases (s t : State) (h : execRecv s = .next t) :
    (s.rxBusy = true ∧ t = s.rejectCommand .rxBusy) ∨ (s.rxBusy = false ∧ t = s.armReceive) := by
  unfold execRecv at h
  split at h
  · next hb => exact .inl ⟨hb, (Host.Outcome.next.inj h).symm⟩
  · next hb => exact .inr ⟨by simpa using hb, (Host.Outcome.next.inj h).symm⟩

/-! ## Transmit -/

/-- SEND ends in a next state: rejected while busy, rejected for its length, else started (R78). -/
theorem execSend_cases (s t : State) (h : execSend s = .next t) :
    (s.txBusy = true ∧ t = s.rejectCommand .txBusy) ∨
    (s.txBusy = false ∧ s.cfg.maxPayload < s.txLen.toNat ∧ t = s.rejectCommand .txLength) ∨
    (s.txBusy = false ∧ s.txLen.toNat ≤ s.cfg.maxPayload ∧ t = s.startSend) := by
  unfold execSend at h
  split at h
  · next hb => exact .inl ⟨hb, (Host.Outcome.next.inj h).symm⟩
  · next hb =>
    have hb' : s.txBusy = false := by simpa using hb
    split at h
    · next hl => exact .inr (.inl ⟨hb', hl, (Host.Outcome.next.inj h).symm⟩)
    · next hl => exact .inr (.inr ⟨hb', by omega, (Host.Outcome.next.inj h).symm⟩)

/-- One wire byte, as a record update: what the TX engine's step writes (R79). -/
theorem State.emitByte_eq (s : State) :
    s.emitByte =
      { s with
        txOut := s.txOut ++ [s.txWireByte]
        txCrcAcc := if 1 ≤ s.txIdx.toNat ∧ s.txIdx.toNat ≤ 3 + s.txLen.toNat then
          crcUpdate s.cfg.crc s.txCrcAcc s.txWireByte else s.txCrcAcc
        txBusy := if s.txIdx.toNat = 5 + s.txLen.toNat then false else s.txBusy
        txDone := if s.txIdx.toNat = 5 + s.txLen.toNat then true else s.txDone
        txIdx := if s.txIdx.toNat = 5 + s.txLen.toNat then 0 else s.txIdx + 1 } := by
  unfold State.emitByte State.advanceTx State.feedTxCrc State.txPush
  by_cases h1 : s.txIdx.toNat = 5 + s.txLen.toNat <;>
    by_cases h2 : 1 ≤ s.txIdx.toNat ∧ s.txIdx.toNat ≤ 3 + s.txLen.toNat <;> simp [h1, h2]

/-! ## The host's command write -/

/-- A write to CMD runs one of the command rows (R82). -/
theorem execWrCmd_cases (v : Word) (s : State) :
    execWrCmd v s = execNop s ∨ execWrCmd v s = execRecv s ∨ execWrCmd v s = execSend s ∨
    execWrCmd v s = execCrcInit s ∨ execWrCmd v s = execCrcUpdate (commandData v) s ∨
    execWrCmd v s = .next (s.rejectCommand .reservedOp) := by
  unfold execWrCmd
  split
  · exact .inl rfl
  · exact .inr (.inl rfl)
  · exact .inr (.inr (.inl rfl))
  · exact .inr (.inr (.inr (.inl rfl)))
  · exact .inr (.inr (.inr (.inr (.inl rfl))))
  · exact .inr (.inr (.inr (.inr (.inr rfl))))
  · exact .inr (.inr (.inr (.inr (.inr rfl))))
  · exact .inr (.inr (.inr (.inr (.inr rfl))))
  · exact .inr (.inr (.inr (.inr (.inr rfl))))

/-! ## The agents -/

/-- An RX byte step is the decoded head byte's row on the rest of the queue, or no step (R62). -/
theorem rxEngineStep_cases (s : State) :
    (∃ b q, s.rxBusy = true ∧ s.rxQueue = b :: q ∧
      rxEngineStep s = exec (decodeWire s.cfg.startByte s.rxState b) { s with rxQueue := q }) ∨
    ((s.rxBusy = false ∨ s.rxQueue = []) ∧ rxEngineStep s = .next s) := by
  unfold rxEngineStep
  split
  · next b q hb hq => exact .inl ⟨b, q, hb, hq, rfl⟩
  · next h =>
    refine .inr ⟨?_, rfl⟩
    cases hb : s.rxBusy with
    | false => exact .inl rfl
    | true =>
      cases hq : s.rxQueue with
      | nil => exact .inr rfl
      | cons b q => exact absurd hq (h b q hb)

/-- A step takes the first pending stimulus, or there is none and nothing changes. -/
theorem step_cases (s : State) :
    (s.pending = [] ∧ step s = .next s) ∨
    (∃ st rest, s.pending = st :: rest ∧ step s = perform st { s with pending := rest }) := by
  unfold step runNext
  split
  · next h => exact .inl ⟨h, rfl⟩
  · next st rest h => exact .inr ⟨st, rest, h, rfl⟩

end Sys2Proof.Machine
end

