-- ==== Sys2Proof/Laws/Exec.lean ====
section
/-! SUPPORT. Everything an operation can do when it ends in a next state, said once: `ExecEffect s i t` lists the cases with
their conditions, and `exec_effect` is the inversion of `exec`. Whole-machine claims go by cases on it. -/
namespace Sys2Proof.Machine

/-- `i` is the command `c`, given as its own row or as the write of a word with this OP to CMD (R82). -/
def isCommand (c : Instr) (op : BitVec 4) (i : Instr) : Prop := i = c ∨ ∃ v, i = .wrCmd v ∧ commandOp v = op

/-- The operation `i` takes `s` to `t` in one of these ways. -/
inductive ExecEffect (s : State) : Instr → State → Prop where
  /-- no effect: NOP, an ignored write, or an event whose condition does not hold -/
  | same (i : Instr) : ExecEffect s i s
  /-- a rejected command (R93) -/
  | rejected (i : Instr) (c : CmdCause) (hc : c ≠ .none) : ExecEffect s i (s.rejectCommand c)
  /-- a read (R89, R90) -/
  | read (i : Instr) (v : Word) : ExecEffect s i (s.hostReads v)
  /-- RECV accepted (R61) -/
  | armed (i : Instr) (hi : isCommand .recv 1 i) (h : s.rxBusy = false) : ExecEffect s i s.armReceive
  /-- SEND accepted (R78) -/
  | sending (i : Instr) (hi : isCommand .send 2 i) (h : s.txBusy = false) (hl : s.txLen.toNat ≤ s.cfg.maxPayload) :
      ExecEffect s i s.startSend
  /-- CRC_INIT (R55) -/
  | crcInit (i : Instr) (hi : isCommand .crcInit 3 i) : ExecEffect s i { s with crcAcc := s.cfg.crc.init }
  /-- CRC_UPDATE (R56) -/
  | crcUpdate (i : Instr) (b : Byte) (hi : isCommand (.crcUpdate b) 4 i) :
      ExecEffect s i { s with crcAcc := crcUpdate s.cfg.crc s.crcAcc b }
  /-- R63 -/
  | rxStart (h : s.rxBusy = true) : ExecEffect s .rxStart s.startByteEffect
  /-- R64 -/
  | rxWait (d : Byte) (h : s.rxBusy = true) (hs : s.rxState = .waitStart) (hd : d ≠ s.cfg.startByte) : ExecEffect s (.rxWait d) s.reload
  /-- R65 -/
  | rxSeq (d : Byte) (h : s.rxBusy = true) (hs : s.rxState = .seq) (hd : d ≠ s.cfg.startByte) :
      ExecEffect s (.rxSeq d) (State.feedRxCrc { s with rxSeq := d, rxState := .lenLo } d).reload
  /-- R66 -/
  | rxLenLo (d : Byte) (h : s.rxBusy = true) (hs : s.rxState = .lenLo) (hd : d ≠ s.cfg.startByte) :
      ExecEffect s (.rxLenLo d) (State.feedRxCrc { s with rxLen := setLowByte s.rxLen d, rxState := .lenHi } d).reload
  /-- R67 -/
  | rxLenHi (d : Byte) (h : s.rxBusy = true) (hs : s.rxState = .lenHi) (hd : d ≠ s.cfg.startByte) :
      ExecEffect s (.rxLenHi d) (State.feedRxCrc { s with rxLen := setHighByte s.rxLen d } d).lengthDeclared
  /-- R68 -/
  | rxPayload (d : Byte) (h : s.rxBusy = true) (hs : s.rxState = .payload) (hd : d ≠ s.cfg.startByte) :
      ExecEffect s (.rxPayload d) ((s.storeRxByte s.rxCnt.toNat d).feedRxCrc d).countPayloadByte.reload
  /-- R69 -/
  | rxCrcLo (d : Byte) (h : s.rxBusy = true) (hs : s.rxState = .crcLo) (hd : d ≠ s.cfg.startByte) :
      ExecEffect s (.rxCrcLo d) (State.reload { s with rxCrcRecv := setLowByte s.rxCrcRecv d, rxState := .crcHi })
  /-- R70 -/
  | rxCrcHi (d : Byte) (h : s.rxBusy = true) (hs : s.rxState = .crcHi) (hd : d ≠ s.cfg.startByte) :
      ExecEffect s (.rxCrcHi d)
        (State.checkChecksum { s with
          rxCrcRecv := setHighByte s.rxCrcRecv d, rxCrcCalc := crcFinal s.cfg.crc s.rxCrcAcc })
  /-- R79 -/
  | txEmit (h : s.txBusy = true) : ExecEffect s .txEmit s.emitByte
  /-- the last tick (R72, R73) -/
  | lastTick (h : s.rxBusy = true) (ht : s.rxTimer.toNat ≤ 1) : ExecEffect s .envTick (s.postResult .timeout)
  /-- any other tick (R72) -/
  | tick (h : s.rxBusy = true) (ht : 1 < s.rxTimer.toNat) : ExecEffect s .envTick { s with rxTimer := s.rxTimer - 1 }
  /-- R74 -/
  | timeout (h : s.rxBusy = true) : ExecEffect s .envTimeout (s.postResult .timeout)
  /-- R75, armed -/
  | resetRxArmed (h : s.rxBusy = true) : ExecEffect s .envResetRx (State.postResult { s with rxQueue := [] } .channelError)
  /-- R75, not armed -/
  | resetRxIdle (h : s.rxBusy = false) : ExecEffect s .envResetRx { s with rxQueue := [] }
  /-- R80 -/
  | resetTx (h : s.txBusy = true) : ExecEffect s .envResetTx { s with txBusy := false, txErr := true, txIdx := 0 }
  /-- R85 -/
  | wrStatus (v : Word) : ExecEffect s (.wrStatus v) (s.clearStatus v)
  /-- R86 -/
  | wrTxCfg (v : Word) (h : s.txBusy = false) :
      ExecEffect s (.wrTxCfg v) { s with txSeq := txCfgSeq v, txLen := txCfgLen v }
  /-- R87, 8 bits -/
  | wrbTxBuf (i b : Byte) (h : s.txBusy = false) : ExecEffect s (.wrbTxBuf i b) (s.storeTxByte i.toNat b)
  /-- R87, 32 bits -/
  | wrTxBuf (k : BitVec 6) (v : Word) (h : s.txBusy = false) :
      ExecEffect s (.wrTxBuf k v) (s.storeTxWord (wordByteIndex k).toNat v)

theorem execRecv_effect (s t : State) (i : Instr) (hi : isCommand .recv 1 i) (h : execRecv s = .next t) :
    ExecEffect s i t := by
  rcases execRecv_cases s t h with ⟨_, rfl⟩ | ⟨hb, rfl⟩
  · exact .rejected i _ (by decide)
  · exact .armed i hi hb

theorem execSend_effect (s t : State) (i : Instr) (hi : isCommand .send 2 i) (h : execSend s = .next t) :
    ExecEffect s i t := by
  rcases execSend_cases s t h with ⟨_, rfl⟩ | ⟨_, _, rfl⟩ | ⟨hb, hl, rfl⟩
  · exact .rejected i _ (by decide)
  · exact .rejected i _ (by decide)
  · exact .sending i hi hb hl

/-- A data-byte row does nothing, or its effect under its condition. -/
theorem onDataByte_effect (s t : State) (st : RxState) (d : Byte) (f : State → State) (i : Instr)
    (hf : s.rxBusy = true → s.rxState = st → d ≠ s.cfg.startByte → ExecEffect s i (f s)) (h : onDataByte st d f s = .next t) :
    ExecEffect s i t := by
  rcases onDataByte_cases st d f s t h with ⟨hb, hs, hd, rfl⟩ | rfl
  · exact hf hb hs hd
  · exact .same i

theorem execWrCmd_effect (v : Word) (s t : State) (h : execWrCmd v s = .next t) : ExecEffect s (.wrCmd v) t := by
  have op : ∀ n : Nat, (commandOp v).toNat = n → n < 16 → commandOp v = BitVec.ofNat 4 n := by
    intro n hn hlt
    apply BitVec.eq_of_toNat_eq
    simp [hn, Nat.mod_eq_of_lt hlt]
  unfold execWrCmd at h
  split at h
  · exact Host.Outcome.next.inj h ▸ .same _
  · next hn => exact execRecv_effect s t _ (.inr ⟨v, rfl, op 1 hn (by decide)⟩) h
  · next hn => exact execSend_effect s t _ (.inr ⟨v, rfl, op 2 hn (by decide)⟩) h
  · next hn => exact Host.Outcome.next.inj h ▸ .crcInit _ (.inr ⟨v, rfl, op 3 hn (by decide)⟩)
  · next hn => exact Host.Outcome.next.inj h ▸ .crcUpdate _ _ (.inr ⟨v, rfl, op 4 hn (by decide)⟩)
  all_goals exact Host.Outcome.next.inj h ▸ .rejected _ .reservedOp (by decide)

/-- The inversion of `exec`: whatever operation ends in a next state, it is one of the listed effects. -/
theorem exec_effect (i : Instr) (s t : State) (h : exec i s = .next t) : ExecEffect s i t := by
  cases i <;> simp only [exec] at h
  case recv => exact execRecv_effect s t _ (.inl rfl) h
  case send => exact execSend_effect s t _ (.inl rfl) h
  case crcInit => exact Host.Outcome.next.inj h ▸ .crcInit _ (.inl rfl)
  case crcUpdate b => exact Host.Outcome.next.inj h ▸ .crcUpdate _ b (.inl rfl)
  case rxStart =>
    unfold execRxStart at h
    split at h
    · next hb => exact Host.Outcome.next.inj h ▸ .rxStart hb
    · exact Host.Outcome.next.inj h ▸ .same _
  case rxWait d => exact onDataByte_effect s t _ d _ _ (.rxWait d) h
  case rxSeq d => exact onDataByte_effect s t _ d _ _ (.rxSeq d) h
  case rxLenLo d => exact onDataByte_effect s t _ d _ _ (.rxLenLo d) h
  case rxLenHi d => exact onDataByte_effect s t _ d _ _ (.rxLenHi d) h
  case rxPayload d => exact onDataByte_effect s t _ d _ _ (.rxPayload d) h
  case rxCrcLo d => exact onDataByte_effect s t _ d _ _ (.rxCrcLo d) h
  case rxCrcHi d => exact onDataByte_effect s t _ d _ _ (.rxCrcHi d) h
  case txEmit =>
    unfold execTxEmit at h
    split at h
    · next hb => exact Host.Outcome.next.inj h ▸ .txEmit hb
    · exact Host.Outcome.next.inj h ▸ .same _
  case envTick =>
    unfold execEnvTick at h
    split at h
    · next hb =>
      split at h
      · next ht => exact Host.Outcome.next.inj h ▸ .lastTick hb ht
      · next ht => exact Host.Outcome.next.inj h ▸ .tick hb (by omega)
    · exact Host.Outcome.next.inj h ▸ .same _
  case envTimeout =>
    unfold execEnvTimeout at h
    split at h
    · next hb => exact Host.Outcome.next.inj h ▸ .timeout hb
    · exact Host.Outcome.next.inj h ▸ .same _
  case envResetRx =>
    unfold execEnvResetRx at h
    split at h
    · next hb => exact Host.Outcome.next.inj h ▸ .resetRxArmed hb
    · next hb => exact Host.Outcome.next.inj h ▸ .resetRxIdle (by simpa using hb)
  case envResetTx =>
    unfold execEnvResetTx at h
    split at h
    · next hb => exact Host.Outcome.next.inj h ▸ .resetTx hb
    · exact Host.Outcome.next.inj h ▸ .same _
  case wrCmd v => exact execWrCmd_effect v s t h
  case wrStatus v => exact Host.Outcome.next.inj h ▸ .wrStatus v
  case wrTxCfg v =>
    unfold execWrTxCfg at h
    split at h
    · exact Host.Outcome.next.inj h ▸ .same _
    · next hb => exact Host.Outcome.next.inj h ▸ .wrTxCfg v (by simpa using hb)
  case wrbTxBuf i b =>
    unfold execWrbTxBuf at h
    split at h
    · exact Host.Outcome.next.inj h ▸ .same _
    · next hb => exact Host.Outcome.next.inj h ▸ .wrbTxBuf i b (by simpa using hb)
  case wrTxBuf k v =>
    unfold execWrTxBuf at h
    split at h
    · exact Host.Outcome.next.inj h ▸ .same _
    · next hb => exact Host.Outcome.next.inj h ▸ .wrTxBuf k v (by simpa using hb)
  case illegalAccess a => simp [execIllegalAccess, raiseBusError] at h
  case rdCmd | rdStatus | rdRxInfo | rdRxCrc | rdRxCount | rdTxCfg | rdCrcValue | rdReserved | rdRxBuf | rdTxBuf =>
    exact Host.Outcome.next.inj h ▸ .read _ _
  case reservedOp5 | reservedOp6to7 | reservedOp8toF => exact Host.Outcome.next.inj h ▸ .rejected _ .reservedOp (by decide)
  all_goals exact Host.Outcome.next.inj h ▸ .same _

end Sys2Proof.Machine
end

