-- ==== Sys2Proof/Laws/PerInstr.lean ====
section
/-! SUPPORT. A fact of every row as syntax: the bus rows encode to accesses R26 admits, but for the illegal access, whose access it
does not admit. One lemma per constructor. -/
namespace Sys2Proof.Laws.EncodedAccess

/-- If the encoding of a well-formed operation is a bus access, it is admitted exactly when the operation is not the illegal access
(R26, R91). -/
def Statement (i : Instr) : Prop :=
  ∀ (start : Byte) (a : BusAccess), i.wf start = true → encode start i = .access a →
    (a.admitted = true ↔ ∀ b, i ≠ .illegalAccess b)

/-- An operation that is no bus access. -/
theorem of_not_access (i : Instr) (h : ∀ start a, encode start i ≠ .access a) : Statement i :=
  fun start a _ he => absurd he (h start a)

/-- An operation whose access is admitted and that is not the illegal access. -/
theorem of_admitted (i : Instr) (hi : ∀ b, i ≠ .illegalAccess b)
    (h : ∀ start a, i.wf start = true → encode start i = .access a → a.admitted = true) : Statement i :=
  fun start a hw he => ⟨fun _ => hi, fun _ => h start a hw he⟩

/-- The access of a buffer operand is admitted. -/
theorem admitted_of_bufOperand (w : BufWidth) (i : Byte) (hi : BitVec 4) (hb : hi = 1 ∨ hi = 2) (h : bufOperandWf w i = true) :
    (BusAccess.read w.bits (hi ++ i)).admitted = true := by
  have hlt := i.isLt
  have hv : (hi ++ i).toNat = hi.toNat * 256 + i.toNat := by
    rw [BitVec.toNat_append, Nat.shiftLeft_eq, ← Nat.shiftLeft_eq, ← Nat.shiftLeft_add_eq_or_of_lt hlt, Nat.shiftLeft_eq]
  have hr : hi.toNat = 1 ∨ hi.toNat = 2 := by rcases hb with rfl | rfl <;> decide
  cases w with
  | byte =>
    simp only [BusAccess.admitted, BusAccess.width, BusAccess.addr, BufWidth.bits, hv]
    simp
    omega
  | word =>
    simp only [bufOperandWf, beq_iff_eq] at h
    simp only [BusAccess.admitted, BusAccess.width, BusAccess.addr, BufWidth.bits, aligned, hv]
    simp
    omega

theorem wordByteIndex_aligned : ∀ k : BitVec 6, bufOperandWf .word (wordByteIndex k) = true := by decide

theorem admitted_write (w : Nat) (a : Offset) (v : Word) : (BusAccess.write w a v).admitted = (BusAccess.read w a).admitted := rfl

theorem nop : Statement .nop :=
  of_not_access _ (fun _ _ => nofun)

theorem recv : Statement .recv :=
  of_not_access _ (fun _ _ => nofun)

theorem send : Statement .send :=
  of_not_access _ (fun _ _ => nofun)

theorem crcInit : Statement .crcInit :=
  of_not_access _ (fun _ _ => nofun)

theorem crcUpdate (b : Byte) : Statement (.crcUpdate b) :=
  of_not_access _ (fun _ _ => nofun)

theorem reservedOp5 : Statement .reservedOp5 :=
  of_not_access _ (fun _ _ => nofun)

theorem reservedOp6to7 (op : BitVec 4) : Statement (.reservedOp6to7 op) :=
  of_not_access _ (fun _ _ => nofun)

theorem reservedOp8toF (op : BitVec 4) : Statement (.reservedOp8toF op) :=
  of_not_access _ (fun _ _ => nofun)

theorem rxStart : Statement .rxStart :=
  of_not_access _ (fun _ _ => nofun)

theorem rxWait (d : Byte) : Statement (.rxWait d) :=
  of_not_access _ (fun _ _ => nofun)

theorem rxSeq (d : Byte) : Statement (.rxSeq d) :=
  of_not_access _ (fun _ _ => nofun)

theorem rxLenLo (d : Byte) : Statement (.rxLenLo d) :=
  of_not_access _ (fun _ _ => nofun)

theorem rxLenHi (d : Byte) : Statement (.rxLenHi d) :=
  of_not_access _ (fun _ _ => nofun)

theorem rxPayload (d : Byte) : Statement (.rxPayload d) :=
  of_not_access _ (fun _ _ => nofun)

theorem rxCrcLo (d : Byte) : Statement (.rxCrcLo d) :=
  of_not_access _ (fun _ _ => nofun)

theorem rxCrcHi (d : Byte) : Statement (.rxCrcHi d) :=
  of_not_access _ (fun _ _ => nofun)

theorem txEmit : Statement .txEmit :=
  of_not_access _ (fun _ _ => nofun)

theorem envTick : Statement .envTick :=
  of_not_access _ (fun _ _ => nofun)

theorem envTimeout : Statement .envTimeout :=
  of_not_access _ (fun _ _ => nofun)

theorem envResetRx : Statement .envResetRx :=
  of_not_access _ (fun _ _ => nofun)

theorem envResetTx : Statement .envResetTx :=
  of_not_access _ (fun _ _ => nofun)

theorem wrCmd (v : Word) : Statement (.wrCmd v) :=
  of_admitted _ (fun _ => nofun) (fun _ _ _ he => Encoded.access.inj he ▸ (admitted_write _ _ _).trans (by decide))

theorem wrStatus (v : Word) : Statement (.wrStatus v) :=
  of_admitted _ (fun _ => nofun) (fun _ _ _ he => Encoded.access.inj he ▸ (admitted_write _ _ _).trans (by decide))

theorem wrTxCfg (v : Word) : Statement (.wrTxCfg v) :=
  of_admitted _ (fun _ => nofun) (fun _ _ _ he => Encoded.access.inj he ▸ (admitted_write _ _ _).trans (by decide))

theorem wrbTxBuf (i : Byte) (b : Byte) : Statement (.wrbTxBuf i b) :=
  of_admitted _ (fun _ => nofun) (fun _ _ _ he =>
    Encoded.access.inj he ▸ (admitted_write _ _ _).trans (admitted_of_bufOperand .byte i 2 (.inr rfl) rfl))

theorem wrTxBuf (k : BitVec 6) (v : Word) : Statement (.wrTxBuf k v) :=
  of_admitted _ (fun _ => nofun) (fun _ _ _ he =>
    Encoded.access.inj he ▸ (admitted_write _ _ _).trans (admitted_of_bufOperand .word (wordByteIndex k) 2 (.inr rfl) (wordByteIndex_aligned k)))

theorem wrRxInfo (v : Word) : Statement (.wrRxInfo v) :=
  of_admitted _ (fun _ => nofun) (fun _ _ _ he => Encoded.access.inj he ▸ (admitted_write _ _ _).trans (by decide))

theorem wrRxCrc (v : Word) : Statement (.wrRxCrc v) :=
  of_admitted _ (fun _ => nofun) (fun _ _ _ he => Encoded.access.inj he ▸ (admitted_write _ _ _).trans (by decide))

theorem wrRxCount (v : Word) : Statement (.wrRxCount v) :=
  of_admitted _ (fun _ => nofun) (fun _ _ _ he => Encoded.access.inj he ▸ (admitted_write _ _ _).trans (by decide))

theorem wrCrcValue (v : Word) : Statement (.wrCrcValue v) :=
  of_admitted _ (fun _ => nofun) (fun _ _ _ he => Encoded.access.inj he ▸ (admitted_write _ _ _).trans (by decide))

theorem wrRxBuf (w : BufWidth) (i : Byte) (v : Word) : Statement (.wrRxBuf w i v) :=
  of_admitted _ (fun _ => nofun) (fun _ _ hw he =>
    Encoded.access.inj he ▸ (admitted_write _ _ _).trans (admitted_of_bufOperand w i 1 (.inl rfl) hw))

theorem wrReserved (a : Offset) (v : Word) : Statement (.wrReserved a v) :=
  of_admitted _ (fun _ => nofun) (fun _ _ hw he => Encoded.access.inj he ▸ (Bool.and_eq_true_iff.1 hw).1)

theorem rdCmd : Statement .rdCmd :=
  of_admitted _ (fun _ => nofun) (fun _ _ _ he => Encoded.access.inj he ▸ by decide)

theorem rdStatus : Statement .rdStatus :=
  of_admitted _ (fun _ => nofun) (fun _ _ _ he => Encoded.access.inj he ▸ by decide)

theorem rdRxInfo : Statement .rdRxInfo :=
  of_admitted _ (fun _ => nofun) (fun _ _ _ he => Encoded.access.inj he ▸ by decide)

theorem rdRxCrc : Statement .rdRxCrc :=
  of_admitted _ (fun _ => nofun) (fun _ _ _ he => Encoded.access.inj he ▸ by decide)

theorem rdRxCount : Statement .rdRxCount :=
  of_admitted _ (fun _ => nofun) (fun _ _ _ he => Encoded.access.inj he ▸ by decide)

theorem rdTxCfg : Statement .rdTxCfg :=
  of_admitted _ (fun _ => nofun) (fun _ _ _ he => Encoded.access.inj he ▸ by decide)

theorem rdCrcValue : Statement .rdCrcValue :=
  of_admitted _ (fun _ => nofun) (fun _ _ _ he => Encoded.access.inj he ▸ by decide)

theorem rdReserved (a : Offset) : Statement (.rdReserved a) :=
  of_admitted _ (fun _ => nofun) (fun _ _ hw he => Encoded.access.inj he ▸ (Bool.and_eq_true_iff.1 hw).1)

theorem rdRxBuf (w : BufWidth) (i : Byte) : Statement (.rdRxBuf w i) :=
  of_admitted _ (fun _ => nofun) (fun _ _ hw he => Encoded.access.inj he ▸ admitted_of_bufOperand w i 1 (.inl rfl) hw)

theorem rdTxBuf (w : BufWidth) (i : Byte) : Statement (.rdTxBuf w i) :=
  of_admitted _ (fun _ => nofun) (fun _ _ hw he => Encoded.access.inj he ▸ admitted_of_bufOperand w i 2 (.inr rfl) hw)

theorem illegalAccess (a : BusAccess) : Statement (.illegalAccess a) := by
  intro start b hw he
  obtain rfl := Encoded.access.inj he
  have hn : a.admitted = false := by simpa [Instr.wf] using hw
  exact ⟨fun h => absurd h (by simp [hn]), fun h => absurd rfl (h a)⟩

end Sys2Proof.Laws.EncodedAccess
end

