-- ==== Sys2Proof/Laws/Run.lean ====
section
/-! SUPPORT. Runs of a machine step by step, for any machine, so that no proof unfolds a run. -/
namespace Sys2Proof.Machine

/-- A run whose first step answers a next state goes on from it. -/
theorem run_succ (M : Host.Core) (k : Nat) (s t : M.State) (h : M.step s = .next t) : M.run (k + 1) s = M.run k t := by
  simp [Host.Core.run, h]

/-- One step. -/
theorem run_one (M : Host.Core) (s : M.State) : M.run 1 s = M.step s := by
  cases h : M.step s <;> simp [Host.Core.run, h]

/-- A run that answers a next state, continued. -/
theorem run_add (M : Host.Core) (j k : Nat) (s t : M.State) (h : M.run j s = .next t) : M.run (j + k) s = M.run k t := by
  induction j generalizing s with
  | zero =>
    obtain rfl : s = t := Host.Outcome.next.inj h
    rw [Nat.zero_add]
  | succ j ih =>
    rw [Nat.succ_add]
    cases hs : M.step s with
    | next u => exact (run_succ M (j + k) s u hs).trans (ih u ((run_succ M j s u hs).symm.trans h))
    | fault e => simp [Host.Core.run, hs] at h
    | refused e => simp [Host.Core.run, hs] at h

end Sys2Proof.Machine
end

