-- ==== Sys2Proof/Tests/Slice0.lean ====
section
/-! SUPPORT. Small tests: ill-formed terms that the checks refuse, one or two steps of each operation with the result the spec
gives (95_test_vectors.md or the rule's own example), and for every statement with hypotheses a concrete case that meets them. -/
namespace Sys2Proof.Tests
open Sys2Proof.Machine

/-- The next state of a result, if it is one. -/
def after (r : Result) : Option State :=
  match r with
  | .next t => some t
  | _ => none

/-- The fault of a result, if it is one. -/
def faultOf (r : Result) : Option Fault :=
  match r with
  | .fault e => some e
  | _ => none

/-- An armed receive in FSM state `st`. -/
def armedIn (st : RxState) : State := { State.reset with rxBusy := true, rxState := st, rxTimer := 100 }

/-- The frame of vector RX-1 up to its checksum: AE 07 02 00 01 02. -/
def afterPayload : State :=
  { armedIn .crcLo with rxSeq := 0x07, rxLen := 2, rxCnt := 2, rxCrcAcc := 0x88C3, rxBuf := [(0, 0x01), (1, 0x02)] }

/-- The same with the low checksum byte C3. -/
def beforeVerdict : State := { afterPayload with rxState := .crcHi, rxCrcRecv := 0x00C3 }

/-- After the FRAME of vector RX-1. -/
def afterFrame : State :=
  { beforeVerdict with
    rxState := .waitStart, rxBusy := false, rxDone := true, rxResult := .frame, rxCrcRecv := 0x88C3
    rxCrcCalc := 0x88C3, health := .ok, rxTimer := 0 }

/-- TX_CFG and TX_BUF of vector TX-1, idle. -/
def readyToSend : State := { State.reset with txSeq := 0x07, txLen := 2, txBuf := [(0, 0x01), (1, 0x02)] }

/-- The frame of vector TX-2 (AE 01 00 00 AC FB) with only its last byte to send. -/
def lastByteToSend : State :=
  { State.reset with txBusy := true, txSeq := 0x01, txLen := 0, txIdx := 5, txCrcAcc := 0xFBAC }

/-! ## The checks of WellFormed refuse ill-formed terms -/

theorem test_wf_reservedOp6to7 :
    Instr.wf 0xAE (.reservedOp6to7 5) = false ∧ Instr.wf 0xAE (.reservedOp6to7 6) = true := by decide

theorem test_wf_reservedOp8toF :
    Instr.wf 0xAE (.reservedOp8toF 7) = false ∧ Instr.wf 0xAE (.reservedOp8toF 8) = true := by decide

theorem test_wf_rxWait :
    Instr.wf 0xAE (.rxWait 0xAE) = false ∧ Instr.wf 0xAE (.rxWait 0xAD) = true := by decide

theorem test_wf_rxSeq :
    Instr.wf 0xAE (.rxSeq 0xAE) = false ∧ Instr.wf 0xAE (.rxSeq 0xAD) = true := by decide

theorem test_wf_rxLenLo :
    Instr.wf 0xAE (.rxLenLo 0xAE) = false ∧ Instr.wf 0xAE (.rxLenLo 0xAD) = true := by decide

theorem test_wf_rxLenHi :
    Instr.wf 0xAE (.rxLenHi 0xAE) = false ∧ Instr.wf 0xAE (.rxLenHi 0xAD) = true := by decide

theorem test_wf_rxPayload :
    Instr.wf 0xAE (.rxPayload 0xAE) = false ∧ Instr.wf 0xAE (.rxPayload 0xAD) = true := by decide

theorem test_wf_rxCrcLo :
    Instr.wf 0xAE (.rxCrcLo 0xAE) = false ∧ Instr.wf 0xAE (.rxCrcLo 0xAD) = true := by decide

theorem test_wf_rxCrcHi :
    Instr.wf 0xAE (.rxCrcHi 0xAE) = false ∧ Instr.wf 0xAE (.rxCrcHi 0xAD) = true := by decide

theorem test_wf_wrRxBuf :
    Instr.wf 0xAE (.wrRxBuf .word 0x02 0) = false ∧ Instr.wf 0xAE (.wrRxBuf .byte 0x02 0) = true := by decide

theorem test_wf_rdRxBuf :
    Instr.wf 0xAE (.rdRxBuf .word 0xFF) = false ∧ Instr.wf 0xAE (.rdRxBuf .word 0xFC) = true := by decide

theorem test_wf_rdTxBuf :
    Instr.wf 0xAE (.rdTxBuf .word 0x01) = false ∧ Instr.wf 0xAE (.rdTxBuf .byte 0x01) = true := by decide

theorem test_wf_wrReserved :
    Instr.wf 0xAE (.wrReserved 0x018 0) = false ∧ Instr.wf 0xAE (.wrReserved 0x01D 0) = false ∧
    Instr.wf 0xAE (.wrReserved 0x01C 0) = true := by decide

theorem test_wf_rdReserved :
    Instr.wf 0xAE (.rdReserved 0x2FC) = false ∧ Instr.wf 0xAE (.rdReserved 0x302) = false ∧
    Instr.wf 0xAE (.rdReserved 0x300) = true := by decide

theorem test_wf_illegalAccess :
    Instr.wf 0xAE (.illegalAccess (.read 32 0x004)) = false ∧ Instr.wf 0xAE (.illegalAccess (.read 8 0x004)) = true := by decide

theorem test_wf_config :
    Config.wf { Config.default with tPayMs := 65536 } = false ∧ Config.wf Config.default = true := by decide

/-! ## Decoding: words written out from R37, R38 (commands), R45, R49 (wire), R23, R26 (bus) -/

/-- OP = 4 in bits [3:0], DATA = 0x41 in bits [15:8] -/
theorem test_decode_command :
    decode 0xAE .waitStart (.commandWord 0x00004104) = .crcUpdate 0b01000001 := by decide

theorem test_decode_wire :
    decode 0xAE .lenHi (.wireIn 0b00000001) = .rxLenHi 0b00000001 := by decide

theorem test_decode_start :
    decode 0xAE .payload (.wireIn 0b10101110) = .rxStart := by decide

theorem test_decode_write :
    decode 0xAE .waitStart (.access (.write 32 0b000000010100 0x00020007)) = .wrTxCfg 0x00020007 := by decide

theorem test_decode_read :
    decode 0xAE .waitStart (.access (.read 8 0b000100000001)) = .rdRxBuf .byte 0b00000001 := by decide

theorem test_decode_event :
    decode 0xAE .waitStart (.event .tick) = .envTick ∧ decode 0xAE .waitStart .wireOut = .txEmit := by decide

/-! ## Commands -/

/-- HB-16 -/
theorem test_nop :
    after (exec .nop afterFrame) = some afterFrame := by decide

/-- CRC-C6 -/
theorem test_crcInit :
    (after (exec .crcInit { State.reset with crcAcc := 0xB915 })).map State.crcValueWord = some 0x0000FFFF := by decide

/-- CRC-C2 -/
theorem test_crcUpdate_first :
    (after (exec (.crcUpdate 0x41) State.reset)).map State.crcValueWord = some 0x0000B915 := by decide

/-- CRC-S5 -/
theorem test_crcUpdate_general :
    (after (exec (.crcUpdate 0x56) { State.reset with crcAcc := 0x1234 })).map State.crcAcc = some 0x3C40 := by decide

/-- CRC-P3 -/
theorem test_crc_kermit :
    crc16 CrcProfile.kermit [0x31, 0x32, 0x33, 0x34, 0x35, 0x36, 0x37, 0x38, 0x39] = 0x2189 := by decide +kernel

/-- R61 example, T_HDR = 100 -/
theorem test_recv_arms :
    (after (exec .recv State.reset)).map (fun s => (s.statusWord, s.rxTimer)) = some (0x00000001, 100) := by decide

/-- RX-16 -/
theorem test_recv_rejected :
    (after (exec .recv (armedIn .waitStart))).map State.statusWord = some 0x00020011 := by decide

/-- TX-1 -/
theorem test_send_starts :
    (after (exec .send readyToSend)).map State.statusWord = some 0x00000004 := by decide

/-- TX-5 -/
theorem test_send_too_long :
    (after (exec .send { readyToSend with txLen := 257 })).map State.statusWord = some 0x00040010 := by decide

/-- HB-2b -/
theorem test_reservedOp5 :
    (after (exec .reservedOp5 State.reset)).map State.statusWord = some 0x00010010 := by decide

/-- R84 -/
theorem test_reservedOp6to7 :
    (after (exec (.reservedOp6to7 6) State.reset)).map State.statusWord = some 0x00010010 := by decide

/-- HB-2 -/
theorem test_reservedOp8toF :
    (after (exec (.reservedOp8toF 0xF) State.reset)).map State.statusWord = some 0x00010010 := by decide

/-! ## RX byte steps -/

/-- R63: a start byte in CRC_HI abandons the frame -/
theorem test_rxStart_in_crcHi :
    (after (exec .rxStart beforeVerdict)).map (fun s => (s.rxState, s.rxSeq, s.rxLen, s.rxCnt, s.rxCrcAcc, s.rxCrcRecv))
    = some (.seq, 0, 0, 0, 0xFFFF, 0) := by decide

/-- R62: not enabled while rx_busy = 0 -/
theorem test_rxStart_idle :
    after (exec .rxStart State.reset) = some State.reset := by decide

/-- R64 -/
theorem test_rxWait :
    (after (exec (.rxWait 0x11) { armedIn .waitStart with rxTimer := 1 })).map (fun s => (s.rxState, s.rxTimer))
    = some (.waitStart, 100) := by decide

/-- R65 example -/
theorem test_rxSeq :
    (after (exec (.rxSeq 0x07) (armedIn .seq))).map (fun s => (s.rxSeq, s.rxCrcAcc, s.rxState))
    = some (0x07, 0x9117, .lenLo) := by decide

/-- R66 example -/
theorem test_rxLenLo :
    (after (exec (.rxLenLo 0x02) { armedIn .lenLo with rxCrcAcc := 0x9117 })).map (fun s => (s.rxLen, s.rxCrcAcc, s.rxState))
    = some (0x0002, 0xA4DA, .lenHi) := by decide

/-- RX-4 -/
theorem test_rxLenHi_overflow :
    (after (exec (.rxLenHi 0x01) { armedIn .lenHi with rxLen := 0x0001 })).map (fun s => (s.statusWord, s.rxInfoWord))
    = some (0x00000402, 0x01010000) := by decide

/-- R67: L = 256 is accepted -/
theorem test_rxLenHi_longest :
    (after (exec (.rxLenHi 0x01) (armedIn .lenHi))).map (fun s => (s.rxState, s.rxLen, s.rxTimer))
    = some (.payload, 0x0100, 500) := by decide

/-- R68 example -/
theorem test_rxPayload_last :
    (after (exec (.rxPayload 0x02) { armedIn .payload with rxLen := 2, rxCnt := 1, rxCrcAcc := 0xABAC })).map (fun s => (s.rxCrcAcc, s.rxState, s.rxCnt, s.rxByte 1))
    = some (0x88C3, .crcLo, 2, 0x02) := by decide

/-- CRC-13's running register -/
theorem test_rxPayload_not_last :
    (after (exec (.rxPayload 0x01) { armedIn .payload with rxLen := 2, rxCrcAcc := 0x2F6E })).map (fun s => (s.rxCrcAcc, s.rxState, s.rxCnt, s.rxTimer))
    = some (0xABAC, .payload, 1, 500) := by decide

/-- R69 example -/
theorem test_rxCrcLo :
    (after (exec (.rxCrcLo 0xC3) afterPayload)).map (fun s => (s.rxCrcRecv, s.rxState, s.rxCrcAcc))
    = some (0x00C3, .crcHi, 0x88C3) := by decide

/-- RX-1 -/
theorem test_rxCrcHi_frame :
    (after (exec (.rxCrcHi 0x88) beforeVerdict)).map (fun s => (s.statusWord, s.rxInfoWord, s.rxCrcWord, s.irq))
    = some (0x00000142, 0x00020007, 0x88C388C3, true) := by decide

/-- RX-6b -/
theorem test_rxCrcHi_error :
    (after (exec (.rxCrcHi 0x89) beforeVerdict)).map (fun s => (s.statusWord, s.rxCrcWord))
    = some (0x00000382, 0x88C389C3) := by decide

/-! ## TX step and events -/

/-- R79: the start byte is not folded in -/
theorem test_txEmit_first :
    (after (exec .txEmit { readyToSend with txBusy := true })).map (fun s => (s.txOut, s.txIdx, s.txCrcAcc))
    = some ([0xAE], 1, 0xFFFF) := by decide

/-- TX-2 -/
theorem test_txEmit_last :
    (after (exec .txEmit lastByteToSend)).map (fun s => (s.txOut, s.statusWord, s.irq))
    = some ([0xFB], 0x00000008, true) := by decide

/-- RX-13 -/
theorem test_envTick_last :
    (after (exec .envTick { armedIn .lenHi with rxTimer := 1 })).map State.statusWord = some 0x00000202 := by decide

/-- RX-13a -/
theorem test_envTick_earlier :
    (after (exec .envTick { armedIn .lenHi with rxTimer := 2 })).map (fun s => (s.statusWord, s.rxTimer))
    = some (0x00003001, 1) := by decide

/-- R74 -/
theorem test_envTimeout :
    (after (exec .envTimeout (armedIn .waitStart))).map State.statusWord = some 0x00000202 := by decide

/-- RX-15 -/
theorem test_envResetRx :
    (after (exec .envResetRx { armedIn .lenLo with rxSeq := 0x07, rxQueue := [0x01] })).map (fun s => (s.statusWord, s.rxInfoWord, s.rxQueue))
    = some (0x00000502, 0x00000007, []) := by decide

/-- TX-7 -/
theorem test_envResetTx :
    (after (exec .envResetTx { readyToSend with txBusy := true, txIdx := 3, txOut := [0xAE, 0x07, 0x02] })).map (fun s => (s.statusWord, s.txOut, s.irq))
    = some (0x00000020, [0xAE, 0x07, 0x02], false) := by decide

/-! ## Bus writes -/

/-- CRC-C4 -/
theorem test_wrCmd_ignored_bits :
    (after (exec (.wrCmd 0x00004114) State.reset)).map State.crcValueWord = some 0x0000B915 := by decide

/-- R85 example, HB-15 -/
theorem test_wrStatus :
    (after (exec (.wrStatus 0x12) { afterFrame with cmdErr := true, cmdCause := .rxBusy })).map State.statusWord
    = some 0x00000140 := by decide

/-- TX-10 -/
theorem test_wrTxCfg :
    (after (exec (.wrTxCfg 0xFFFF0107) State.reset)).map State.txCfgWord = some 0xFFFF0007 := by decide

/-- TX-6 -/
theorem test_wrTxCfg_busy :
    (after (exec (.wrTxCfg 0x00000009) { readyToSend with txBusy := true })).map State.txCfgWord = some 0x00020007 := by decide

/-- R87 -/
theorem test_wrbTxBuf :
    (after (exec (.wrbTxBuf 0xFF 0x55) State.reset)).map (fun s => s.txByte 0xFF) = some 0x55 := by decide

/-- TX-6 -/
theorem test_wrbTxBuf_busy :
    (after (exec (.wrbTxBuf 0x00 0x55) { readyToSend with txBusy := true })).map (fun s => s.txByte 0) = some 0x01 := by decide

/-- HB-11 -/
theorem test_wrTxBuf :
    (after (exec (.wrTxBuf 0 0x04030201) State.reset)).map (fun s => (s.txByte 0, s.txByte 1, s.txByte 2, s.txByte 3))
    = some (0x01, 0x02, 0x03, 0x04) := by decide

/-- R23: bytes from MAX_PAYLOAD on are reserved -/
theorem test_wrTxBuf_short_buffer :
    (after (exec (.wrTxBuf 0 0x04030201) { State.reset with cfg := { Config.default with maxPayload := 2 } })).map (fun s => (s.txByte 1, s.txByte 2))
    = some (0x02, 0x00) := by decide

/-- HB-12 -/
theorem test_wrRxInfo :
    after (exec (.wrRxInfo 0x12345678) afterFrame) = some afterFrame := by decide

/-- R88 -/
theorem test_wrRxCrc :
    after (exec (.wrRxCrc 0xFFFFFFFF) afterFrame) = some afterFrame := by decide

/-- R88 -/
theorem test_wrRxCount :
    after (exec (.wrRxCount 0xFFFFFFFF) afterFrame) = some afterFrame := by decide

/-- HB-12 -/
theorem test_wrCrcValue :
    after (exec (.wrCrcValue 0) afterFrame) = some afterFrame := by decide

/-- R88 -/
theorem test_wrRxBuf :
    after (exec (.wrRxBuf .byte 0x00 0x55) afterFrame) = some afterFrame := by decide

/-- HB-12 -/
theorem test_wrReserved :
    after (exec (.wrReserved 0x01C 5) afterFrame) = some afterFrame := by decide

/-! ## Bus reads -/

/-- HB-1 -/
theorem test_rdCmd :
    (after (exec .rdCmd { State.reset with hostA := 7 })).map State.hostA = some 0 := by decide

/-- R89 example -/
theorem test_rdStatus :
    (after (exec .rdStatus afterFrame)).map State.hostA = some 0x00000142 := by decide

/-- R89 example -/
theorem test_rdRxInfo :
    (after (exec .rdRxInfo afterFrame)).map State.hostA = some 0x00020007 := by decide

/-- R89 example -/
theorem test_rdRxCrc :
    (after (exec .rdRxCrc afterFrame)).map State.hostA = some 0x88C388C3 := by decide

/-- RX-3 -/
theorem test_rdRxCount :
    (after (exec .rdRxCount { State.reset with rxCnt := 256 })).map State.hostA = some 0x100 := by decide

/-- TX-1b -/
theorem test_rdTxCfg :
    (after (exec .rdTxCfg readyToSend)).map State.hostA = some 0x00020007 := by decide

/-- CRC-C1 -/
theorem test_rdCrcValue :
    (after (exec .rdCrcValue State.reset)).map State.hostA = some 0x0000FFFF := by decide

/-- HB-12 -/
theorem test_rdReserved :
    (after (exec (.rdReserved 0xFFC) { State.reset with hostA := 7 })).map State.hostA = some 0 := by decide

/-- HB-13 -/
theorem test_rdRxBuf :
    (after (exec (.rdRxBuf .byte 0x01) afterFrame)).map State.hostA = some 0x02 := by decide

/-- HB-11 -/
theorem test_rdTxBuf :
    (after (exec (.rdTxBuf .word 0x00) { State.reset with txBuf := [(0, 0x01), (1, 0x02), (2, 0x03), (3, 0x04)] })).map State.hostA
    = some 0x04030201 := by decide

/-- HB-5 -/
theorem test_illegalAccess :
    faultOf (exec (.illegalAccess (.read 32 0x006)) State.reset) = some (.busError 0x006) := by decide

/-! ## The step -/

/-- HB-10 -/
theorem test_step_bus_error :
    faultOf (step { State.reset with pending := [.bus (.read 64 0x000)] }) = some (.busError 0x000) := by decide

/-- RX-18 -/
theorem test_step_rx_not_armed :
    (after (step { State.reset with pending := [.rxStep], rxQueue := [0xAE] })).map (fun s => (s.rxQueue, s.rxState))
    = some ([0xAE], .waitStart) := by decide

/-- RX-22 -/
theorem test_step_rx_start :
    (after (step { armedIn .crcLo with pending := [.rxStep], rxQueue := [0xAE, 0x01] })).map (fun s => (s.rxQueue, s.rxState))
    = some ([0x01], .seq) := by decide

/-- P6 -/
theorem test_step_channel_reset :
    (after (step { armedIn .lenLo with pending := [.channelReset], rxSeq := 0x10, txBusy := true, txLen := 4, txIdx := 5 })).map (fun s => (s.statusWord, s.irq))
    = some (0x00000522, true) := by decide

/-- R108, R109 -/
theorem test_step_block_reset :
    (after (step { afterFrame with pending := [.blockReset], rxQueue := [0x09] })).map (fun s => (s.statusWord, s.rxInfoWord, s.crcValueWord, s.rxQueue))
    = some (0, 0, 0x0000FFFF, [0x09]) := by decide

/-- log 10 -/
theorem test_step_table_word :
    after (step (State.reset.withFetchWord 32 0x00000001)) = after (exec .recv State.reset) := by decide

/-- log 10, R63 -/
theorem test_step_table_start :
    (after (step (State.reset.withFetchWord 8 0xAE))).map (fun s => (s.rxState, s.rxQueue)) = some (.seq, []) := by decide

/-- log 10 -/
theorem test_step_table_offset :
    after (step (State.reset.withFetchWord 16 0x018)) = after (exec (.wrCrcValue 0) State.reset) := by decide

/-- R22, R105 -/
theorem test_platform_route :
    (Platform.reset [0x40000000, 0x40001000]).route 0x40001014 = some (1, 0x014) ∧
    (Platform.reset [0x40000000, 0x40001000]).route 0x40002000 = none := by decide

/-- R50: RX_DONE is 0, so `goto L` -/
theorem test_asm_poll_again :
    AsmRun.turn (AsmRun.start [.poll 0x004 0x2 0x2, .rd 0x008] (armedIn .seq)) = .next ⟨[], [.poll 0x004 0x2 0x2, .rd 0x008], { armedIn .seq with hostA := 0x00001001 }⟩ := by rfl

/-- R50, R31 (c): the last byte comes before the read, so RX_DONE is 1; STATUS as in R89's example -/
theorem test_asm_poll_after_engine_step :
    AsmRun.turnAfter [.rxStep] (AsmRun.start [.poll 0x004 0x2 0x2, .rd 0x008] { beforeVerdict with rxQueue := [0x88] }) = .next ⟨[], [.rd 0x008], { afterFrame with hostA := 0x00000142 }⟩ := by rfl

/-- R50 -/
theorem test_asm_envRun :
    AsmRun.turn (AsmRun.start [.envRun] lastByteToSend) = .next ⟨[.txReady], [.envRun], lastByteToSend⟩ ∧
    AsmRun.turn (AsmRun.start [.envRun] readyToSend) = .next ⟨[], [], readyToSend⟩ := ⟨rfl, rfl⟩

/-- R99 -/
theorem test_clock_order :
    ClockEvents.schedule { hostAccess := some (.read 32 0x004), channelReset := true, rxByte := true, tick := true, txEmit := true }
    = [.bus (.read 32 0x004), .channelReset, .rxStep, .tick, .txReady] := by decide

/-! ## Every hypothesis can be met, clause by clause, at the ends of its range -/

theorem witness_DecodeOfEncodeIsTheOperation :
    Instr.wf 0xAE (.rdReserved 0x300) = true ∧ Instr.wf 0xAE (.rxSeq 0xAF) = true ∧ Instr.wf 0xAE (.reservedOp8toF 0xF) = true :=
  by decide

theorem witness_EncodeOfDecodeKeepsTheEncoding :
    ∀ addr data, BusAccess.write 8 0x2FF 0xFF = .write 8 addr data → data.toNat < 0x100 :=
  by
  intro addr data h
  cases h
  decide

theorem witness_StepRunsTheDecodedOperation :
    (∃ w rest, ({ State.reset with pending := [.command 1] } : State).pending = .command w :: rest) ∧
    (∃ b q rest, ({ armedIn .seq with pending := [.rxStep], rxQueue := [0xAE] } : State).pending = .rxStep :: rest ∧
      (armedIn .seq).rxBusy = true ∧ [(0xAE : Byte)] = b :: q) ∧
    (({ State.reset with pending := [.rxStep] } : State).rxBusy = false) ∧
    (∃ m, exec .envResetRx { State.reset with pending := [] } = .next m) :=
  ⟨⟨1, [], rfl⟩, ⟨0xAE, [], [], rfl, rfl, rfl⟩, rfl, ⟨_, rfl⟩⟩

theorem witness_StepKeepsTheParameters :
    step State.reset = .next State.reset :=
  rfl

theorem witness_StepKeepsTheInvariant :
    State.Inv State.reset ∧ ∃ t, step { State.reset with pending := [.command 1] } = .next t :=
  ⟨by constructor <;> decide, _, rfl⟩

theorem witness_FrameIsReceivedAsSent :
    ∃ s : State, s.rxBusy = true ∧ s.rxState = .waitStart ∧ [(0x01 : Byte), 0x02].length ≤ s.cfg.maxPayload ∧
    (∀ b ∈ [(0x00 : Byte), 0x11], b ≠ s.cfg.startByte) ∧ (∀ b ∈ (wireFrame s.cfg 0x07 [0x01, 0x02]).tail, b ≠ s.cfg.startByte) ∧
    s.rxQueue = [0x00, 0x11] ++ wireFrame s.cfg 0x07 [0x01, 0x02] ++ [] ∧ s.pending = List.replicate (2 + (6 + 2)) .rxStep ++ [] :=
  ⟨{ armedIn .waitStart with
      rxQueue := [0x00, 0x11] ++ wireFrame Config.default 0x07 [0x01, 0x02]
      pending := List.replicate (2 + (6 + 2)) .rxStep },
    rfl, rfl, by decide, by decide, by decide +kernel, rfl, rfl⟩

theorem witness_SendEmitsTheFrame :
    ∃ s : State, s.txBusy = false ∧ s.txLen.toNat ≤ s.cfg.maxPayload ∧ s.txLen.toNat = 256 ∧
    s.pending = .command 0x00000002 :: List.replicate (6 + s.txLen.toNat) .txReady ++ [] :=
  ⟨{ State.reset with txLen := 256, pending := .command 0x00000002 :: List.replicate (6 + 256) .txReady },
    rfl, by decide, rfl, (List.append_nil _).symm⟩

theorem witness_LoopbackDeliversThePayload :
    ∃ s : State, ∃ frame : List Byte,
    frame = wireFrame s.cfg s.txSeq ((List.range s.txLen.toNat).map s.txByte) ∧ s.txBusy = false ∧ s.rxBusy = false ∧
    s.rxState = .waitStart ∧ s.rxQueue = [] ∧ s.txLen.toNat ≤ s.cfg.maxPayload ∧ (∀ b ∈ frame.tail, b ≠ s.cfg.startByte) ∧
    s.pending = .command 0x00000002 :: List.replicate (6 + s.txLen.toNat) .txReady
      ++ [.rxArrive frame, .command 0x00000001] ++ List.replicate (6 + s.txLen.toNat) .rxStep ++ [] :=
  ⟨{ readyToSend with
      pending := .command 0x00000002 :: List.replicate 8 .txReady
        ++ [.rxArrive (wireFrame Config.default 0x07 [0x01, 0x02]), .command 0x00000001] ++ List.replicate 8 .rxStep },
    wireFrame Config.default 0x07 [0x01, 0x02], by decide +kernel, rfl, rfl, rfl, rfl, by decide, by decide +kernel, rfl⟩

theorem witness_OneWrongByteIsAChecksumError :
    ∃ s : State, s.rxBusy = true ∧ s.rxState = .waitStart ∧ [(0x01 : Byte), 0x02].length ≤ s.cfg.maxPayload ∧
    s.cfg.crc.poly.getLsbD 0 = true ∧ (∀ k, k = 1 ∨ k = 4 ∨ k = 7 →
      (wireFrame s.cfg 0x07 [0x01, 0x02])[k]? ≠ some 0x03 ∧
      (∀ b ∈ ((wireFrame s.cfg 0x07 [0x01, 0x02]).set k 0x03).tail, b ≠ s.cfg.startByte)) ∧
    s.rxQueue = (wireFrame s.cfg 0x07 [0x01, 0x02]).set 4 0x03 ++ [] ∧ s.pending = List.replicate (6 + 2) .rxStep ++ [] :=
  ⟨{ armedIn .waitStart with
      rxQueue := (wireFrame Config.default 0x07 [0x01, 0x02]).set 4 0x03, pending := List.replicate (6 + 2) .rxStep },
    rfl, rfl, by decide, by decide, by rintro k (rfl | rfl | rfl) <;> decide +kernel, rfl, rfl⟩

theorem witness_TimeoutComesOnTheLastTick :
    ∀ n, n = 99 ∨ n = 100 → ∃ s : State, s.rxBusy = true ∧ 1 ≤ s.rxTimer.toNat ∧ s.pending = List.replicate n .tick ++ [] ∧
    (n < s.rxTimer.toNat ∨ n = s.rxTimer.toNat) :=
  by
  rintro n (rfl | rfl)
  · exact ⟨{ armedIn .seq with pending := List.replicate 99 .tick }, rfl, by decide, by simp, by decide⟩
  · exact ⟨{ armedIn .seq with pending := List.replicate 100 .tick }, rfl, by decide, by simp, by decide⟩

theorem witness_CrcInitStartsAComputation :
    (0xFFFFFFF3 : Word).extractLsb' 0 4 = 3#4 ∧ State.reset.cfg.crc = CrcProfile.ccittFalse :=
  by decide

theorem witness_CrcUpdateFeedsOneByte :
    (0xFFFFFFF4 : Word).extractLsb' 0 4 = 4#4 :=
  by decide

theorem witness_CrcIsLinearOverMessages :
    [(0x01 : Byte), 0x02, 0x03].length = [(0x10 : Byte), 0x20, 0x30].length :=
  rfl

theorem witness_CrcTellsMessagesApartInOneByte :
    CrcProfile.x25.poly.getLsbD 0 = true ∧ (0x00 : Byte) ≠ 0x80 :=
  by decide

theorem witness_NopChangesNothing :
    (0xFFFFFFF0 : Word).extractLsb' 0 4 = 0#4 :=
  by decide

theorem witness_RecvArmsOrIsRejected :
    (0xFFFFFFF1 : Word).extractLsb' 0 4 = 1#4 ∧ (armedIn .crcHi).rxBusy = true ∧ State.reset.rxBusy = false :=
  by decide

theorem witness_SendStartsOrIsRejected :
    (0xFFFFFFF2 : Word).extractLsb' 0 4 = 2#4 ∧ lastByteToSend.txBusy = true ∧
    (∀ len : Half, len = 256 → ({ State.reset with txLen := len } : State).txLen.toNat ≤ State.reset.cfg.maxPayload) ∧
    (∀ len : Half, len = 257 → State.reset.cfg.maxPayload < ({ State.reset with txLen := len } : State).txLen.toNat) :=
  ⟨by decide, rfl, by rintro _ rfl; decide, by rintro _ rfl; decide⟩

theorem witness_ReservedCommandsAreRejected :
    5 ≤ ((0x00000005 : Word).extractLsb' 0 4).toNat ∧ 5 ≤ ((0xFFFFFFFF : Word).extractLsb' 0 4).toNat :=
  by decide

theorem witness_WriteToCmdRunsTheCommand :
    (0xFFFFFFF0 : Word).extractLsb' 0 4 = 0#4 ∧ (0xFFFFFFF1 : Word).extractLsb' 0 4 = 1#4 ∧
    (0xFFFFFFF2 : Word).extractLsb' 0 4 = 2#4 ∧ (0xFFFFFFF3 : Word).extractLsb' 0 4 = 3#4 ∧
    (0xFFFFFFF4 : Word).extractLsb' 0 4 = 4#4 ∧ 5 ≤ ((0xFFFFFFF5 : Word).extractLsb' 0 4).toNat ∧
    (0x00004104 : Word).extractLsb' 0 4 = (0xABCD4114 : Word).extractLsb' 0 4 ∧
    (0x00004104 : Word).extractLsb' 8 8 = (0xABCD4114 : Word).extractLsb' 8 8 :=
  by decide

theorem witness_TxCfgWriteStoresWhileIdle :
    readyToSend.txBusy = false ∧ lastByteToSend.txBusy = true :=
  by decide

theorem witness_TxBufWriteStoresWhileIdle :
    readyToSend.txBusy = false ∧ lastByteToSend.txBusy = true :=
  by decide

theorem witness_BufferReadsReturnTheirBytes :
    (State.reset.cfg.maxPayload : Nat) ≤ 256 :=
  by decide

theorem witness_BusErrorExactlyForIllegalAccesses :
    (BusAccess.read 32 0xFFC).width = 32 ∧ (BusAccess.read 32 0xFFC).addr.toNat % 4 = 0 ∧
    (BusAccess.read 8 0x100).width = 8 ∧ 0x100 ≤ (BusAccess.read 8 0x100).addr.toNat ∧ (BusAccess.read 8 0x2FF).addr.toNat < 0x300 :=
  by decide

theorem witness_ReadsHaveNoSideEffects :
    ∃ t, exec (decodeAccess (.read 32 0x004)) afterFrame = .next t :=
  ⟨_, rfl⟩

theorem witness_BufferWordsAreLittleEndian :
    (3 : Nat) < 4 ∧ (0xFC : Byte).toNat % 4 = 0 ∧ (0xFF : Byte).toNat = (0xFC : Byte).toNat + 3 ∧
    (∃ t, exec (.rdRxBuf .word 0xFC) afterFrame = .next t) ∧ (∃ u, exec (.rdRxBuf .byte 0xFF) afterFrame = .next u) ∧
    (∃ t, exec (.rdTxBuf .word 0xFC) afterFrame = .next t) ∧ (∃ u, exec (.rdTxBuf .byte 0xFF) afterFrame = .next u) :=
  ⟨by decide, by decide, by decide, ⟨_, rfl⟩, ⟨_, rfl⟩, ⟨_, rfl⟩, ⟨_, rfl⟩⟩

theorem witness_StartByteResyncs :
    (armedIn .crcHi).rxBusy = true :=
  rfl

theorem witness_NoiseIsDiscarded :
    (armedIn .waitStart).rxBusy = true ∧ (armedIn .waitStart).rxState = .waitStart ∧ (0x00 : Byte) ≠ (armedIn .waitStart).cfg.startByte :=
  by decide

theorem witness_SequenceAndLowLengthBytes :
    (armedIn .seq).rxBusy = true ∧ (0xFF : Byte) ≠ (armedIn .seq).cfg.startByte ∧ (armedIn .seq).rxState = .seq ∧
    (armedIn .lenLo).rxState = .lenLo :=
  by decide

theorem witness_HighLengthByteDecides :
    ∀ lo d : Byte, (lo = 0x01 ∧ d = 0x01) ∨ (lo = 0x00 ∧ d = 0x00) ∨ (lo = 0x00 ∧ d = 0x01) →
    let s : State := { armedIn .lenHi with rxLen := lo.setWidth 16 }
    let len : Half := d ++ s.rxLen.extractLsb' 0 8
    s.rxBusy = true ∧ s.rxState = .lenHi ∧ d ≠ s.cfg.startByte ∧
    (s.cfg.maxPayload < len.toNat ∨ len = 0 ∨ (len ≠ 0 ∧ len.toNat ≤ s.cfg.maxPayload)) :=
  by
  rintro lo d (⟨rfl, rfl⟩ | ⟨rfl, rfl⟩ | ⟨rfl, rfl⟩) <;> decide

theorem witness_PayloadByteIsStored :
    ∀ n : BitVec 9, n = 0 ∨ n = 255 → let s : State := { armedIn .payload with rxLen := 256, rxCnt := n }
    s.rxBusy = true ∧ s.rxState = .payload ∧ (0x00 : Byte) ≠ s.cfg.startByte ∧ s.rxCnt.toNat < s.cfg.maxPayload :=
  by
  rintro n (rfl | rfl) <;> decide

theorem witness_LowChecksumByteIsStored :
    afterPayload.rxBusy = true ∧ afterPayload.rxState = .crcLo ∧ (0xC3 : Byte) ≠ afterPayload.cfg.startByte :=
  by decide

theorem witness_HighChecksumByteGivesTheVerdict :
    beforeVerdict.rxBusy = true ∧ beforeVerdict.rxState = .crcHi ∧ (0x88 : Byte) ≠ beforeVerdict.cfg.startByte ∧
    crcFinal beforeVerdict.cfg.crc beforeVerdict.rxCrcAcc = (0x88 : Byte) ++ beforeVerdict.rxCrcRecv.extractLsb' 0 8 ∧
    crcFinal beforeVerdict.cfg.crc beforeVerdict.rxCrcAcc ≠ (0x89 : Byte) ++ beforeVerdict.rxCrcRecv.extractLsb' 0 8 :=
  by decide

theorem witness_TickCountsDownOrTimesOut :
    State.reset.rxBusy = false ∧ (armedIn .seq).rxBusy = true ∧ 1 < ({ armedIn .seq with rxTimer := 2 } : State).rxTimer.toNat ∧
    ({ armedIn .seq with rxTimer := 1 } : State).rxTimer.toNat ≤ 1 :=
  by decide

theorem witness_AbstractTimeoutPostsTimeout :
    (armedIn .payload).rxBusy = true :=
  rfl

theorem witness_ChannelResetEndsBothSides :
    ∃ s : State, s.pending = .channelReset :: [] ∧ s.rxBusy = true ∧ s.txBusy = true :=
  ⟨{ armedIn .seq with txBusy := true, pending := [.channelReset] }, rfl, rfl, rfl⟩

theorem witness_EmitStepSendsTheIndexedByte :
    ∀ i : Half, i = 0 ∨ i = 5 → let s : State := { lastByteToSend with txIdx := i }
    s.txBusy = true ∧ s.txIdx.toNat ≤ s.txLen.toNat + 5 :=
  by
  rintro i (rfl | rfl) <;> decide

theorem witness_RxStepsIgnoreTheTxSide :
    Instr.rxCrcHi 0x88 ∈ [Instr.rxStart, .rxWait 0x88, .rxSeq 0x88, .rxLenLo 0x88, .rxLenHi 0x88, .rxPayload 0x88, .rxCrcLo 0x88,
      .rxCrcHi 0x88, .envTick, .envTimeout] ∧ ∃ t, exec (.rxCrcHi 0x88) beforeVerdict = .next t :=
  ⟨by decide, _, rfl⟩

theorem witness_TxStepsIgnoreTheRxSide :
    ∃ t, exec .txEmit lastByteToSend = .next t :=
  ⟨_, rfl⟩

theorem witness_LockProtectsTheFrameInFlight :
    lastByteToSend.txBusy = true ∧ (∃ t, exec (.wrTxCfg 0) lastByteToSend = .next t) ∧
    ∃ t, exec .txEmit lastByteToSend = .next t ∧ t.txBusy = false :=
  ⟨rfl, ⟨_, rfl⟩, _, rfl, rfl⟩

theorem witness_ReceiveFlagsChangeAsTabled :
    (∃ t, exec .recv State.reset = .next t ∧ t.rxBusy = true) ∧
    (∃ t, exec (.rxCrcHi 0x88) beforeVerdict = .next t ∧ t.rxBusy = false ∧ t.rxDone = true) ∧
    ∃ t, exec .recv afterFrame = .next t ∧ t.rxDone = false :=
  ⟨⟨_, rfl, rfl⟩, ⟨_, rfl, rfl, rfl⟩, _, rfl, rfl⟩

theorem witness_TransmitFlagsChangeAsTabled :
    (∃ t, exec .send readyToSend = .next t ∧ t.txBusy = true) ∧
    (∃ t, exec .txEmit lastByteToSend = .next t ∧ t.txBusy = false ∧ t.txDone = true) ∧
    (∃ t, exec .envResetTx lastByteToSend = .next t ∧ t.txErr = true) ∧
    (∃ t, exec (.wrStatus 0x28) { State.reset with txDone := true, txErr := true } = .next t ∧ t.txDone = false ∧ t.txErr = false) :=
  ⟨⟨_, rfl, rfl⟩, ⟨_, rfl, rfl, rfl⟩, ⟨_, rfl, rfl⟩, _, rfl, rfl, rfl⟩

theorem witness_RejectionChangesOnlyItsFlag :
    (∃ t, exec .reservedOp5 State.reset = .next t ∧ t.cmdErr ≠ State.reset.cmdErr) ∧
    ∃ t, exec (.wrStatus 0x10) { State.reset with cmdErr := true, cmdCause := .txBusy } = .next t ∧ t.cmdErr ≠ true :=
  ⟨⟨_, rfl, by decide⟩, _, rfl, by decide⟩

theorem witness_IrqRisesAndFallsAsStated :
    (∃ t, exec (.rxCrcHi 0x88) beforeVerdict = .next t ∧ beforeVerdict.irq = false ∧ t.irq = true) ∧
    ∃ t, exec (.wrStatus 0x02) afterFrame = .next t ∧ afterFrame.irq = true ∧ t.irq = false :=
  ⟨⟨_, rfl, rfl, rfl⟩, _, rfl, rfl, rfl⟩

theorem witness_HealthIsTheLastVerdict :
    ∃ t, exec (.rxCrcHi 0x89) beforeVerdict = .next t ∧ t.health ≠ beforeVerdict.health :=
  ⟨_, rfl, by decide⟩

theorem witness_LastFrameStaysReadable :
    afterFrame.rxBusy = false ∧ ∃ t, exec .recv afterFrame = .next t :=
  ⟨rfl, _, rfl⟩

theorem witness_OnlyTheirCommandsWriteCrcAndSequence :
    ∃ t, exec (.crcUpdate 0x41) State.reset = .next t ∧ t.crcAcc ≠ State.reset.crcAcc :=
  ⟨_, rfl, by decide⟩

theorem witness_AdvisoryFieldsAreNeverUsed :
    (∃ t, exec (.rxCrcHi 0x88) beforeVerdict = .next t) ∧ Instr.rxCrcHi 0x88 ≠ .rdRxInfo ∧ Instr.rxCrcHi 0x88 ≠ .rdStatus :=
  ⟨⟨_, rfl⟩, by decide, by decide⟩

theorem witness_CommandsCompleteInTheirWrite :
    (∀ (w : Word) (addr : Offset) (s : State), s ∈ [armedIn .seq, readyToSend, lastByteToSend, { readyToSend with txLen := 257 }] →
      ∃ u : State, u = { s with pending := .bus (.write 32 0x000 w) :: .bus (.read 32 addr) :: [] } ∧
        u.pending = .bus (.write 32 0x000 w) :: .bus (.read 32 addr) :: []) ∧
    [(0x1 : Word), 0x2, 0x3, 0x4104].map commandOp = [1, 2, 3, 4] ∧ 5 ≤ (commandOp 0x5).toNat ∧ 5 ≤ (commandOp 0xF).toNat ∧
    (armedIn .seq).rxBusy = true ∧ lastByteToSend.txBusy = true ∧ readyToSend.txBusy = false ∧
    readyToSend.txLen.toNat ≤ readyToSend.cfg.maxPayload ∧
    readyToSend.cfg.maxPayload < ({ readyToSend with txLen := 257 } : State).txLen.toNat :=
  ⟨fun _ _ _ _ => ⟨_, rfl, rfl⟩, by decide, by decide, by decide, rfl, rfl, rfl, by decide, by decide⟩

theorem witness_ByteComesBeforeTheExpiringTick :
    let s : State := { armedIn .seq with rxTimer := 1, rxQueue := [0x07] }
    s.cfg.wf = true ∧ 2 ≤ s.cfg.tHdr ∧ 2 ≤ s.cfg.tPay ∧ s.rxBusy = true ∧ s.rxResult = .none ∧ s.rxTimer = 1 ∧ s.rxQueue = 0x07 :: [] ∧
    ∃ t, performAll (ClockEvents.schedule
      { hostAccess := none, channelReset := false, rxByte := true, tick := true, txEmit := false }) s = .next t :=
  ⟨by decide, by decide, by decide, rfl, rfl, rfl, rfl, _, rfl⟩

theorem witness_BlockResetRestoresEveryElement :
    ∃ s : State, s.pending = .blockReset :: [] :=
  ⟨{ afterFrame with pending := [.blockReset] }, rfl⟩

theorem witness_InstancesAreIsolated :
    ∃ q, (Platform.reset [0x40000000, 0x40001000]).stepAt 1 = .next q :=
  ⟨_, rfl⟩

end Sys2Proof.Tests
end

section
/-! Every operation keeps the parameters of R5 (log 2): one law per state update for the field `cfg`, then `exec` through its
inversion, then what one stimulus does, then the step. -/
namespace Sys2Proof.Machine

/-! ## The parameters after the updates that branch or compose -/

@[simp] theorem State.startByteEffect_cfg (s : State) : s.startByteEffect.cfg = s.cfg := rfl

@[simp] theorem State.lengthDeclared_cfg (s : State) : s.lengthDeclared.cfg = s.cfg := by
  rcases s.lengthDeclared_cases with ⟨_, h⟩ | ⟨_, _, h⟩ | ⟨_, _, h⟩ <;> rw [h] <;> rfl

@[simp] theorem State.checkChecksum_cfg (s : State) : s.checkChecksum.cfg = s.cfg := by
  rcases s.checkChecksum_cases with ⟨_, h⟩ | ⟨_, h⟩ <;> rw [h] <;> rfl

@[simp] theorem State.emitByte_cfg (s : State) : s.emitByte.cfg = s.cfg := by rw [State.emitByte_eq]

@[simp] theorem State.storeTxWord_cfg (s : State) (i : Nat) (v : Word) : (s.storeTxWord i v).cfg = s.cfg := rfl

@[simp] theorem State.blockReset_cfg (s : State) : s.blockReset.cfg = s.cfg := rfl

/-! ## Operations, stimuli and the step -/

theorem ExecEffect.cfg_eq {s t : State} {i : Instr} (h : ExecEffect s i t) : t.cfg = s.cfg := by
  cases h <;> simp

theorem exec_keeps_cfg {i : Instr} {s t : State} (h : exec i s = .next t) : t.cfg = s.cfg :=
  (exec_effect i s t h).cfg_eq

theorem runEncoded_keeps_cfg {e : Encoded} {s t : State} (h : runEncoded e s = .next t) : t.cfg = s.cfg :=
  exec_keeps_cfg h

theorem rxEngineStep_keeps_cfg {s t : State} (h : rxEngineStep s = .next t) : t.cfg = s.cfg := by
  rcases rxEngineStep_cases s with ⟨b, q, _, _, hrow⟩ | ⟨_, hidle⟩
  · exact (exec_keeps_cfg (hrow.symm.trans h)).trans rfl
  · rw [Host.Outcome.next.inj (hidle.symm.trans h)]

theorem channelReset_keeps_cfg {s t : State} (h : channelReset s = .next t) : t.cfg = s.cfg := by
  obtain ⟨m, hrx, htx⟩ := (chain_eq_next _ _ t).1 h
  exact (runEncoded_keeps_cfg htx).trans (runEncoded_keeps_cfg hrx)

theorem perform_keeps_cfg {st : Stimulus} {s t : State} (h : perform st s = .next t) : t.cfg = s.cfg := by
  cases st with
  | command | bus | txReady | tick | timeout => exact runEncoded_keeps_cfg h
  | rxStep => exact rxEngineStep_keeps_cfg h
  | channelReset => exact channelReset_keeps_cfg h
  | rxArrive bytes => exact Host.Outcome.next.inj h ▸ s.rxArrive_cfg bytes
  | blockReset => exact Host.Outcome.next.inj h ▸ s.blockReset_cfg

/-- Settles O5, by cases on the stimulus taken and, for one that runs an operation, on what the operation can do. -/
theorem stepKeepsTheParameters : Obligations.StepKeepsTheParameters := by
  intro s t h
  rcases step_cases s with ⟨_, hidle⟩ | ⟨st, rest, _, htaken⟩
  · rw [Host.Outcome.next.inj (hidle.symm.trans h)]
  · exact (perform_keeps_cfg (htaken.symm.trans h)).trans rfl

end Sys2Proof.Machine
end

section
/-! The invariant of the model (R15, R17). First the timer, then one lemma per state update: an update that touches no clause of
the invariant is `{ h with }`, any other lists exactly the clauses it touches. Then reset, the operations through their
inversion, and the step. -/
namespace Sys2Proof.Machine

/-! ## The reload values fit the timer -/

theorem one_le_ticks (c : Config) (ms : Nat) : 1 ≤ c.ticks ms := Nat.le_max_left _ _

theorem config_wf_iff (c : Config) : c.wf = true ↔ c.tHdr < 0x10000 ∧ c.tPay < 0x10000 := by
  simp [Config.wf]

theorem toNat_timerValue {n : Nat} (h : n < 0x10000) : (timerValue n).toNat = n := by
  simpa [timerValue] using h

theorem reloadTicks_cases (c : Config) (st : RxState) : reloadTicks c st = c.tHdr ∨ reloadTicks c st = c.tPay := by
  cases st <;> simp [reloadTicks]

/-- Whatever the FSM state, a reload loads at least one tick and at most the larger reload value (R6, R60). -/
theorem timerValue_reloadTicks_bounds {c : Config} (hwf : c.wf = true) (st : RxState) :
    1 ≤ (timerValue (reloadTicks c st)).toNat ∧ (timerValue (reloadTicks c st)).toNat ≤ max c.tHdr c.tPay := by
  obtain ⟨hhdr, hpay⟩ := (config_wf_iff c).1 hwf
  rcases reloadTicks_cases c st with h | h <;> rw [h]
  · rw [toNat_timerValue hhdr]
    exact ⟨one_le_ticks _ _, Nat.le_max_left _ _⟩
  · rw [toNat_timerValue hpay]
    exact ⟨one_le_ticks _ _, Nat.le_max_right _ _⟩

/-- A counted payload byte is the last one or not (R68). -/
theorem State.countPayloadByte_cases (s : State) :
    ((s.rxCnt + 1).toNat = s.rxLen.toNat ∧ s.countPayloadByte = { s with rxCnt := s.rxCnt + 1, rxState := .crcLo }) ∨
    ((s.rxCnt + 1).toNat ≠ s.rxLen.toNat ∧ s.countPayloadByte = { s with rxCnt := s.rxCnt + 1 }) := by
  unfold State.countPayloadByte
  split
  · next h => exact .inl ⟨h, rfl⟩
  · next h => exact .inr ⟨h, rfl⟩

theorem State.feedTxCrc_txBusy (s : State) (b : Byte) : (s.feedTxCrc b).txBusy = s.txBusy := by
  unfold State.feedTxCrc
  split <;> rfl

namespace State.Inv

variable {s : State}

/-! ## Updates of the host, the queues and the CRC registers -/

theorem withPending (h : s.Inv) (p : List Stimulus) : State.Inv { s with pending := p } := { h with }

theorem withRxQueue (h : s.Inv) (q : List Byte) : State.Inv { s with rxQueue := q } := { h with }

theorem withCrcAcc (h : s.Inv) (c : Half) : State.Inv { s with crcAcc := c } := { h with }

theorem withHealth (h : s.Inv) (x : Health) : State.Inv { s with health := x } := { h with }

theorem withRxChecksums (h : s.Inv) (received computed : Half) :
    State.Inv { s with rxCrcRecv := received, rxCrcCalc := computed } := { h with }

theorem hostReads (h : s.Inv) (v : Word) : (s.hostReads v).Inv := { h with }

theorem txPush (h : s.Inv) (b : Byte) : (s.txPush b).Inv := { h with }

theorem feedRxCrc (h : s.Inv) (b : Byte) : (s.feedRxCrc b).Inv := { h with }

theorem feedTxCrc (h : s.Inv) (b : Byte) : (s.feedTxCrc b).Inv := by
  unfold State.feedTxCrc
  split
  · exact { h with }
  · exact h

/-! ## Rejection, W1C and the buffers -/

theorem rejectCommand (h : s.Inv) {c : CmdCause} (hc : c ≠ .none) : (s.rejectCommand c).Inv :=
  { h with cause_with_error := by simp [hc] }

theorem clearStatus (h : s.Inv) (v : Word) : (s.clearStatus v).Inv :=
  { h with
    armed_no_result := fun hb => by
      obtain ⟨hdone, hres⟩ := h.armed_no_result hb
      simp [hdone, hres]
    done_has_result := fun hd => h.done_has_result (Bool.and_eq_true_iff.1 hd).1
    sending_not_done := fun hb => by simp [h.sending_not_done hb]
    cause_with_error := by
      simp only [State.clearStatus_cmdErr, State.clearStatus_cmdCause]
      cases v.getLsbD 4 <;> simp [h.cause_with_error] }

theorem storeRxByte (h : s.Inv) (i : Nat) (b : Byte) : (s.storeRxByte i b).Inv :=
  { h with
    rx_buf_wf := bufferStore_wf _ _ _ _ h.rx_buf_wf
    rx_buf_below := bufferStore_below _ _ _ _ h.rx_buf_below }

theorem storeTxByte (h : s.Inv) (i : Nat) (b : Byte) : (s.storeTxByte i b).Inv :=
  { h with
    tx_buf_wf := bufferStore_wf _ _ _ _ h.tx_buf_wf
    tx_buf_below := bufferStore_below _ _ _ _ h.tx_buf_below }

theorem storeTxWord (h : s.Inv) (i : Nat) (v : Word) : (s.storeTxWord i v).Inv :=
  (((h.storeTxByte _ _).storeTxByte _ _).storeTxByte _ _).storeTxByte _ _

/-! ## The receive timer and result -/

theorem reload (h : s.Inv) : s.reload.Inv :=
  { h with timer_running := fun _ => timerValue_reloadTicks_bounds h.cfg_wf _ }

theorem armReceive (h : s.Inv) (hidle : s.rxBusy = false) : s.armReceive.Inv :=
  { h with
    idle_waits := fun _ => h.idle_waits hidle
    armed_no_result := fun _ => ⟨rfl, rfl⟩
    done_has_result := nofun
    timer_running := fun _ => timerValue_reloadTicks_bounds h.cfg_wf .waitStart }

theorem postResult (h : s.Inv) {r : RxResult} (hr : r ≠ .none) : (s.postResult r).Inv :=
  { h with
    idle_waits := fun _ => rfl
    payload_bounds := nofun
    crc_bounds := nofun
    armed_no_result := nofun
    header_count := nofun
    done_has_result := fun _ => hr
    timer_running := nofun }

/-- A tick that is not the last leaves at least one (R72). -/
theorem countTick (h : s.Inv) (hb : s.rxBusy = true) (ht : 1 < s.rxTimer.toNat) :
    State.Inv { s with rxTimer := s.rxTimer - 1 } :=
  { h with
    timer_running := fun _ => by
      have hmax := (h.timer_running hb).2
      have hsub : (s.rxTimer - 1).toNat = s.rxTimer.toNat - 1 := by bv_omega
      simp only [hsub]
      omega }

/-! ## The receive FSM (R63 to R70) -/

/-- An armed FSM may enter any state whose own clauses hold. -/
theorem withRxState (h : s.Inv) (hb : s.rxBusy = true) (st : RxState)
    (hpayload : st = .payload → 1 ≤ s.rxLen.toNat ∧ s.rxLen.toNat ≤ s.cfg.maxPayload ∧ s.rxCnt.toNat < s.rxLen.toNat)
    (hcrc : st = .crcLo ∨ st = .crcHi → s.rxLen.toNat ≤ s.cfg.maxPayload ∧ s.rxCnt.toNat = s.rxLen.toNat)
    (hheader : RxState.beforePayload st = true → s.rxCnt = 0) : State.Inv { s with rxState := st } :=
  { h with
    idle_waits := fun hidle => absurd (hb.symm.trans hidle) nofun
    payload_bounds := hpayload
    crc_bounds := hcrc
    header_count := hheader }

/-- While a header is read, its fields hold nothing the invariant speaks of. -/
theorem withHeader (h : s.Inv) (hst : RxState.beforePayload s.rxState = true) (q : Byte) (l : Half) :
    State.Inv { s with rxSeq := q, rxLen := l } :=
  { h with
    payload_bounds := fun hp => absurd hst (by rw [show s.rxState = _ from hp]; decide)
    crc_bounds := fun hc => absurd hst (by rcases hc with hc | hc <;> rw [show s.rxState = _ from hc] <;> decide) }

/-- From one header state to the next (R65, R66). -/
theorem nextHeaderState (h : s.Inv) (hb : s.rxBusy = true) (hst : RxState.beforePayload s.rxState = true) {st : RxState}
    (hst' : RxState.beforePayload st = true) : State.Inv { s with rxState := st } :=
  h.withRxState hb st (fun hp => absurd hst' (by rw [hp]; decide))
    (fun hc => absurd hst' (by rcases hc with hc | hc <;> rw [hc] <;> decide)) (fun _ => h.header_count hst)

theorem startByteEffect (h : s.Inv) (hb : s.rxBusy = true) : s.startByteEffect.Inv := by
  have hbegun : State.Inv { s.beginFrame with rxState := .seq } :=
    { h with
      idle_waits := fun hidle => absurd (hb.symm.trans hidle) nofun
      payload_bounds := nofun
      crc_bounds := nofun
      count_bound := Nat.zero_le _
      header_count := fun _ => rfl }
  exact hbegun.reload

/-- The complete length starts the payload, or the checksum of an empty one, with no byte counted (R67). -/
theorem lengthDeclared (h : s.Inv) (hb : s.rxBusy = true) (hst : RxState.beforePayload s.rxState = true) :
    s.lengthDeclared.Inv := by
  have hcount : s.rxCnt.toNat = 0 := by simp [h.header_count hst]
  rcases s.lengthDeclared_cases with ⟨_, heq⟩ | ⟨hmax, hzero, heq⟩ | ⟨hmax, hpos, heq⟩ <;> rw [heq]
  · exact h.postResult nofun
  · exact (h.withRxState hb .crcLo nofun (fun _ => ⟨hmax, by simp [hcount, hzero]⟩) nofun).reload
  · have hlen : s.rxLen.toNat ≠ 0 := fun h0 => hpos (BitVec.eq_of_toNat_eq h0)
    exact (h.withRxState hb .payload (fun _ => ⟨by omega, hmax, by omega⟩) nofun nofun).reload

/-- A payload byte counts one up; at the declared length the checksum follows (R68). -/
theorem countPayloadByte (h : s.Inv) (hb : s.rxBusy = true) (hst : s.rxState = .payload) : s.countPayloadByte.Inv := by
  obtain ⟨hpos, hmax, hlt⟩ := h.payload_bounds hst
  have hcount : (s.rxCnt + 1).toNat = s.rxCnt.toNat + 1 := by
    have hcap := s.cfg.maxPayload.isLt
    bv_omega
  have hbound : (s.rxCnt + 1).toNat ≤ s.cfg.maxPayload := by omega
  rcases s.countPayloadByte_cases with ⟨hlast, heq⟩ | ⟨hmore, heq⟩ <;> rw [heq]
  · exact { h with
      idle_waits := fun hidle => absurd (hb.symm.trans hidle) nofun
      payload_bounds := nofun
      crc_bounds := fun _ => ⟨hmax, hlast⟩
      count_bound := hbound
      header_count := nofun }
  · exact { h with
      payload_bounds := fun _ => ⟨hpos, hmax, Nat.lt_of_le_of_ne (hcount ▸ hlt) hmore⟩
      crc_bounds := fun hc => absurd hc (by simp [hst])
      count_bound := hbound
      header_count := fun hhdr => absurd hhdr (by simp [hst, RxState.beforePayload]) }

/-- The checksum's low byte (R69). -/
theorem checksumLow (h : s.Inv) (hb : s.rxBusy = true) (hst : s.rxState = .crcLo) (c : Half) :
    State.Inv { s with rxCrcRecv := c, rxState := .crcHi } :=
  (h.withRxChecksums c s.rxCrcCalc).withRxState hb .crcHi nofun (fun _ => h.crc_bounds (.inl hst)) nofun

theorem checkChecksum (h : s.Inv) : s.checkChecksum.Inv := by
  rcases s.checkChecksum_cases with ⟨_, heq⟩ | ⟨_, heq⟩ <;> rw [heq]
  · exact (h.withHealth .ok).postResult nofun
  · exact (h.withHealth .fail).postResult nofun

/-! ## The transmit engine (R78 to R80, R86) -/

theorem startSend (h : s.Inv) (hlen : s.txLen.toNat ≤ s.cfg.maxPayload) : s.startSend.Inv :=
  { h with
    tx_idle_index := nofun
    tx_busy_bounds := fun _ => ⟨hlen, Nat.zero_le _⟩
    sending_not_done := fun _ => rfl }

theorem withTxConfig (h : s.Inv) (hidle : s.txBusy = false) (q : Byte) (l : Half) :
    State.Inv { s with txSeq := q, txLen := l } :=
  { h with tx_busy_bounds := fun hb => absurd (hidle.symm.trans hb) nofun }

/-- Any byte but the last advances the index, which stays within the frame (R79). -/
theorem advanceTx (h : s.Inv) (hb : s.txBusy = true) : s.advanceTx.Inv := by
  obtain ⟨hlen, hidx⟩ := h.tx_busy_bounds hb
  unfold State.advanceTx
  split
  · exact { h with
      tx_idle_index := fun _ => rfl
      tx_busy_bounds := nofun
      sending_not_done := nofun }
  · next hmore =>
    have hcap : (s.cfg.maxPayload : Nat) < 257 := s.cfg.maxPayload.isLt
    have hnext : (s.txIdx + 1).toNat = s.txIdx.toNat + 1 := by bv_omega
    exact { h with
      tx_idle_index := fun hidle => absurd (hb.symm.trans hidle) nofun
      tx_busy_bounds := fun _ => ⟨hlen, by simp only [hnext]; omega⟩ }

theorem emitByte (h : s.Inv) (hb : s.txBusy = true) : s.emitByte.Inv :=
  ((h.feedTxCrc _).txPush _).advanceTx ((s.feedTxCrc_txBusy _).trans hb)

theorem abortTx (h : s.Inv) (e : Bool) : State.Inv { s with txBusy := false, txErr := e, txIdx := 0 } :=
  { h with
    tx_idle_index := fun _ => rfl
    tx_busy_bounds := nofun
    sending_not_done := nofun }

/-! ## Reset -/

/-- R108, for any parameters that fit the timer. -/
theorem resetWith {c : Config} (hwf : c.wf = true) : (State.resetWith c).Inv where
  idle_waits _ := rfl
  payload_bounds := nofun
  crc_bounds := nofun
  armed_no_result := nofun
  count_bound := Nat.zero_le _
  header_count := nofun
  tx_idle_index _ := rfl
  tx_busy_bounds := nofun
  done_has_result := nofun
  sending_not_done := nofun
  cause_with_error := ⟨fun _ => rfl, fun _ => rfl⟩
  timer_running := nofun
  cfg_wf := hwf
  rx_buf_wf := rfl
  rx_buf_below := rfl
  tx_buf_wf := rfl
  tx_buf_below := rfl

theorem blockReset (h : s.Inv) : s.blockReset.Inv := { resetWith h.cfg_wf with }

end State.Inv

/-- Settles O6: reset with the default parameters, which fit the timer. -/
theorem invariantHoldsAtReset : Obligations.InvariantHoldsAtReset := State.Inv.resetWith (by decide)

/-! ## Operations, stimuli and the step -/

theorem ExecEffect.keeps_inv {s t : State} {i : Instr} (he : ExecEffect s i t) (h : s.Inv) : t.Inv := by
  cases he with
  | same => exact h
  | rejected _ c hc => exact h.rejectCommand hc
  | read _ v => exact h.hostReads v
  | armed _ hi hidle => exact h.armReceive hidle
  | sending _ hi hidle hlen => exact h.startSend hlen
  | crcInit => exact h.withCrcAcc _
  | crcUpdate => exact h.withCrcAcc _
  | rxStart hb => exact h.startByteEffect hb
  | rxWait d hb hst hd => exact h.reload
  | rxSeq d hb hst hd =>
    have hhdr : RxState.beforePayload s.rxState = true := by rw [hst]; rfl
    exact (((h.withHeader hhdr d s.rxLen).nextHeaderState hb hhdr rfl).feedRxCrc d).reload
  | rxLenLo d hb hst hd =>
    have hhdr : RxState.beforePayload s.rxState = true := by rw [hst]; rfl
    exact (((h.withHeader hhdr s.rxSeq (setLowByte s.rxLen d)).nextHeaderState hb hhdr rfl).feedRxCrc d).reload
  | rxLenHi d hb hst hd =>
    have hhdr : RxState.beforePayload s.rxState = true := by rw [hst]; rfl
    exact ((h.withHeader hhdr s.rxSeq _).feedRxCrc d).lengthDeclared hb hhdr
  | rxPayload d hb hst hd => exact (((h.storeRxByte _ d).feedRxCrc d).countPayloadByte hb hst).reload
  | rxCrcLo d hb hst hd => exact (h.checksumLow hb hst _).reload
  | rxCrcHi d hb hst hd => exact (h.withRxChecksums _ _).checkChecksum
  | txEmit hb => exact h.emitByte hb
  | lastTick => exact h.postResult nofun
  | tick hb ht => exact h.countTick hb ht
  | timeout => exact h.postResult nofun
  | resetRxArmed => exact (h.withRxQueue []).postResult nofun
  | resetRxIdle => exact h.withRxQueue []
  | resetTx => exact h.abortTx true
  | wrStatus v => exact h.clearStatus v
  | wrTxCfg v hidle => exact h.withTxConfig hidle _ _
  | wrbTxBuf i b => exact h.storeTxByte _ b
  | wrTxBuf k v => exact h.storeTxWord _ v

/-! ### Facts of a state that every operation keeps

A fact that operations, the queue, the list of stimuli and block reset keep is kept by the step. -/

section StepKeeps

variable {P : State → Prop} (hexec : ∀ {i s t}, P s → exec i s = .next t → P t)
  (hqueue : ∀ {s} (q), P s → P { s with rxQueue := q }) (hpending : ∀ {s} (p), P s → P { s with pending := p })
  (hreset : ∀ {s}, P s → P s.blockReset)

include hexec

theorem runEncoded_keeps {e : Encoded} {s t : State} (h : P s) (hs : runEncoded e s = .next t) : P t := hexec h hs

theorem channelReset_keeps {s t : State} (h : P s) (hs : channelReset s = .next t) : P t := by
  obtain ⟨m, hrx, htx⟩ := (chain_eq_next _ _ t).1 hs
  exact runEncoded_keeps hexec (runEncoded_keeps hexec h hrx) htx

include hqueue

theorem rxEngineStep_keeps {s t : State} (h : P s) (hs : rxEngineStep s = .next t) : P t := by
  rcases rxEngineStep_cases s with ⟨b, q, _, _, hrow⟩ | ⟨_, hidle⟩
  · exact hexec (hqueue q h) (hrow.symm.trans hs)
  · exact Host.Outcome.next.inj (hidle.symm.trans hs) ▸ h

include hreset

theorem perform_keeps {st : Stimulus} {s t : State} (h : P s) (hs : perform st s = .next t) : P t := by
  cases st with
  | command | bus | txReady | tick | timeout => exact runEncoded_keeps hexec h hs
  | rxStep => exact rxEngineStep_keeps hexec hqueue h hs
  | channelReset => exact channelReset_keeps hexec h hs
  | rxArrive bytes => exact Host.Outcome.next.inj hs ▸ hqueue _ h
  | blockReset => exact Host.Outcome.next.inj hs ▸ hreset h

include hpending

/-- One step keeps what its parts keep. -/
theorem step_keeps {s t : State} (h : P s) (hs : step s = .next t) : P t := by
  rcases step_cases s with ⟨_, hidle⟩ | ⟨st, rest, _, htaken⟩
  · exact Host.Outcome.next.inj (hidle.symm.trans hs) ▸ h
  · exact perform_keeps hexec hqueue hreset (hpending rest h) (htaken.symm.trans hs)

end StepKeeps

theorem exec_keeps_inv {i : Instr} {s t : State} (h : s.Inv) (hs : exec i s = .next t) : t.Inv :=
  (exec_effect i s t hs).keeps_inv h

/-- Settles O7: every operation keeps the invariant, and the queue, the list of stimuli and block reset do. -/
theorem stepKeepsTheInvariant : Obligations.StepKeepsTheInvariant := fun _ _ h hs =>
  step_keeps exec_keeps_inv (fun q hi => hi.withRxQueue q) (fun p hi => hi.withPending p) State.Inv.blockReset h hs

end Sys2Proof.Machine
end

section
/-! What an operation does to the flags of the two engines (R20), said once for each side by cases on its effect, and what it does
to the host generator and the sequence byte to send (R13, R81). -/
namespace Sys2Proof.Machine

/-! ## The flags after the updates that branch or compose -/

/-- Once the length is declared the receive goes on, or ends with a result (R67). -/
theorem State.lengthDeclared_flags (s : State) :
    (s.lengthDeclared.rxBusy = s.rxBusy ∧ s.lengthDeclared.rxDone = s.rxDone) ∨
    s.lengthDeclared = s.postResult .overflowError := by
  rcases s.lengthDeclared_cases with ⟨_, h⟩ | ⟨_, _, h⟩ | ⟨_, _, h⟩ <;> rw [h]
  · exact .inr rfl
  · exact .inl ⟨rfl, rfl⟩
  · exact .inl ⟨rfl, rfl⟩

/-- The length check and what follows write nothing of the TX side (R34, R67). -/
theorem State.lengthDeclared_eq_withTxSide (s : State) : s.lengthDeclared = s.lengthDeclared.withTxSide s := by
  rcases s.lengthDeclared_cases with ⟨_, h⟩ | ⟨_, _, h⟩ | ⟨_, _, h⟩ <;> rw [h] <;> rfl

/-- The checksum verdict writes nothing of the TX side (R34, R70). -/
theorem State.checkChecksum_eq_withTxSide (s : State) : s.checkChecksum = s.checkChecksum.withTxSide s := by
  rcases s.checkChecksum_cases with ⟨_, h⟩ | ⟨_, h⟩ <;> rw [h] <;> rfl

/-! ## The receive flags -/

/-- What an operation does to `rx_busy` and `rx_done` (R20). -/
inductive ReceiveFlagEffect (s : State) (i : Instr) (t : State) : Prop where
  /-- neither changes -/
  | kept (hbusy : t.rxBusy = s.rxBusy) (hdone : t.rxDone = s.rxDone)
  /-- RECV accepted (R61) -/
  | armed (hi : isCommand .recv 1 i) (hbusy : t.rxBusy = true) (hdone : t.rxDone = false)
  /-- an armed receive ends with a result (R58) -/
  | posted (hs : s.rxBusy = true) (hbusy : t.rxBusy = false) (hdone : t.rxDone = true) (hresult : t.rxResult ≠ .none)
      (hstate : t.rxState = .waitStart)
  /-- W1C (R85) -/
  | cleared (v : Word) (hi : i = .wrStatus v) (hbusy : t.rxBusy = s.rxBusy) (hdone : t.rxDone = (s.rxDone && !v.getLsbD 1))

theorem ReceiveFlagEffect.of_postResult {s t u : State} {i : Instr} {r : RxResult} (ht : t = u.postResult r)
    (hs : s.rxBusy = true) (hr : r ≠ .none) : ReceiveFlagEffect s i t :=
  ht ▸ .posted hs rfl rfl hr rfl

theorem ExecEffect.receiveFlags {s t : State} {i : Instr} (h : ExecEffect s i t) : ReceiveFlagEffect s i t := by
  cases h with
  | armed _ hi => exact .armed hi rfl rfl
  | rxLenHi d hb =>
    rcases State.lengthDeclared_flags _ with ⟨hbusy, hdone⟩ | hposted
    · exact .kept hbusy hdone
    · exact .of_postResult hposted hb nofun
  | rxCrcHi d hb =>
    rcases State.checkChecksum_cases _ with ⟨_, hposted⟩ | ⟨_, hposted⟩ <;> exact .of_postResult hposted hb nofun
  | lastTick hb | timeout hb | resetRxArmed hb => exact .of_postResult rfl hb nofun
  | wrStatus v => exact .cleared v rfl rfl rfl
  | txEmit =>
    rw [State.emitByte_eq]
    exact .kept rfl rfl
  | wrTxBuf k v =>
    rw [State.storeTxWord_eq]
    exact .kept rfl rfl
  | _ => exact .kept rfl rfl

/-- Settles O48, by cases on what the operation does to the two flags. -/
theorem receiveFlagsChangeAsTabled : Obligations.ReceiveFlagsChangeAsTabled := by
  intro i s t h
  cases (exec_effect i s t h).receiveFlags with
  | kept hbusy hdone => simp_all
  | armed hi hbusy hdone => exact ⟨fun _ _ => hi, by simp [hbusy], by simp [hdone], fun _ _ => hi.imp_right .inl⟩
  | posted hs hbusy hdone hresult hstate => simp_all
  | cleared v hi hbusy hdone =>
    refine ⟨by simp_all, by simp_all, by simp_all, fun hset hclear => .inr (.inr ⟨v, hi, ?_⟩)⟩
    simpa [hset, hclear] using hdone

/-! ## The transmit flags -/

/-- What an operation does to `tx_busy`, `tx_done` and `tx_err` (R20). -/
inductive TransmitFlagEffect (s : State) (i : Instr) (t : State) : Prop where
  /-- none changes -/
  | kept (hbusy : t.txBusy = s.txBusy) (hdone : t.txDone = s.txDone) (herr : t.txErr = s.txErr)
  /-- SEND accepted (R78) -/
  | started (hi : isCommand .send 2 i) (hbusy : t.txBusy = true) (hdone : t.txDone = false) (herr : t.txErr = s.txErr)
  /-- the last byte is emitted (R79) -/
  | finished (hi : i = .txEmit) (hs : s.txBusy = true) (hbusy : t.txBusy = false) (hdone : t.txDone = true)
      (herr : t.txErr = s.txErr)
  /-- a channel reset aborts the frame (R80, R95) -/
  | aborted (hi : i = .envResetTx) (hs : s.txBusy = true) (hbusy : t.txBusy = false) (hdone : t.txDone = s.txDone)
      (herr : t.txErr = true)
  /-- W1C (R85) -/
  | cleared (v : Word) (hi : i = .wrStatus v) (hbusy : t.txBusy = s.txBusy)
      (hdone : t.txDone = (s.txDone && !v.getLsbD 3)) (herr : t.txErr = (s.txErr && !v.getLsbD 5))

theorem ExecEffect.transmitFlags {s t : State} {i : Instr} (h : ExecEffect s i t) : TransmitFlagEffect s i t := by
  cases h with
  | sending _ hi => exact .started hi rfl rfl rfl
  | txEmit hb =>
    rw [State.emitByte_eq]
    by_cases hlast : s.txIdx.toNat = 5 + s.txLen.toNat
    · exact .finished rfl hb (if_pos hlast) (if_pos hlast) rfl
    · exact .kept (if_neg hlast) (if_neg hlast) rfl
  | resetTx hb => exact .aborted rfl hb rfl rfl rfl
  | wrStatus v => exact .cleared v rfl rfl rfl rfl
  | rxLenHi d =>
    rw [State.lengthDeclared_eq_withTxSide]
    exact .kept rfl rfl rfl
  | rxCrcHi d =>
    rw [State.checkChecksum_eq_withTxSide]
    exact .kept rfl rfl rfl
  | wrTxBuf k v =>
    rw [State.storeTxWord_eq]
    exact .kept rfl rfl rfl
  | _ => exact .kept rfl rfl rfl

/-- Settles O49, by cases on what the operation does to the three flags. -/
theorem transmitFlagsChangeAsTabled : Obligations.TransmitFlagsChangeAsTabled := by
  intro i s t h
  cases (exec_effect i s t h).transmitFlags with
  | kept hbusy hdone herr => simp_all
  | started hi hbusy hdone herr =>
    exact ⟨fun _ _ => hi, by simp [hbusy], by simp [hdone], fun _ _ => hi.imp_right .inl, by simp_all, by simp_all⟩
  | finished hi hs hbusy hdone herr => simp_all
  | aborted hi hs hbusy hdone herr => simp_all
  | cleared v hi hbusy hdone herr => simp_all

/-! ## The host generator and the sequence byte -/

/-- Settles O54, by cases on the operation's effect. -/
theorem onlyTheirCommandsWriteCrcAndSequence : Obligations.OnlyTheirCommandsWriteCrcAndSequence := by
  intro i s t h
  cases exec_effect i s t h with
  | crcInit _ hi => exact ⟨.inr (hi.elim .inl fun ⟨v, hv, hop⟩ => .inr (.inr ⟨v, hv, .inl hop⟩)), .inl rfl⟩
  | crcUpdate _ b hi =>
    exact ⟨.inr (.inr (hi.elim (fun hb => .inl ⟨b, hb⟩) fun ⟨v, hv, hop⟩ => .inr ⟨v, hv, .inr hop⟩)), .inl rfl⟩
  | wrTxCfg v => exact ⟨.inl rfl, .inr ⟨v, rfl⟩⟩
  | rxLenHi d =>
    rw [State.lengthDeclared_eq_withTxSide]
    exact ⟨.inl rfl, .inl rfl⟩
  | rxCrcHi d =>
    rw [State.checkChecksum_eq_withTxSide]
    exact ⟨.inl rfl, .inl rfl⟩
  | txEmit =>
    rw [State.emitByte_eq]
    exact ⟨.inl rfl, .inl rfl⟩
  | wrTxBuf k v =>
    rw [State.storeTxWord_eq]
    exact ⟨.inl rfl, .inl rfl⟩
  | _ => exact ⟨.inl rfl, .inl rfl⟩

end Sys2Proof.Machine
end

section
/-! What each stimulus makes of a step (R11, R62, R75, R80). -/
namespace Sys2Proof.Machine

theorem step_of_pending {s : State} {st : Stimulus} {rest : List Stimulus} (h : s.pending = st :: rest) :
    step s = perform st { s with pending := rest } := by
  rcases step_cases s with ⟨hnone, _⟩ | ⟨st', rest', h', htaken⟩
  · exact absurd (hnone.symm.trans h) nofun
  · obtain ⟨rfl, rfl⟩ := List.cons.inj (h'.symm.trans h)
    exact htaken

theorem rxEngineStep_of_enabled {s : State} {b : Byte} {q : List Byte} (hb : s.rxBusy = true) (hq : s.rxQueue = b :: q) :
    rxEngineStep s = exec (decode s.cfg.startByte s.rxState (.wireIn b)) { s with rxQueue := q } := by
  unfold rxEngineStep
  rw [hb, hq]
  rfl

theorem rxEngineStep_of_not_enabled {s : State} (h : s.rxBusy = false ∨ s.rxQueue = []) : rxEngineStep s = .next s := by
  rcases rxEngineStep_cases s with ⟨b, q, hb, hq, _⟩ | ⟨_, hidle⟩
  · simp [hb, hq] at h
  · exact hidle

theorem channelReset_of_rxSide {s m : State} (h : exec .envResetRx s = .next m) : channelReset s = exec .envResetTx m := by
  unfold channelReset chain
  rw [show runEncoded (.event .channelResetRx) s = .next m from h]
  rfl

/-- Settles O4: the step takes the stimulus, and each clause is what that stimulus performs. -/
theorem stepRunsTheDecodedOperation : Obligations.StepRunsTheDecodedOperation := fun _ _ =>
  ⟨fun _ h => step_of_pending h,
   fun _ h => step_of_pending h,
   fun _ _ h hb hq => (step_of_pending h).trans (rxEngineStep_of_enabled hb hq),
   fun h hoff => (step_of_pending h).trans (rxEngineStep_of_not_enabled hoff),
   step_of_pending,
   step_of_pending,
   step_of_pending,
   fun _ h hrx => (step_of_pending h).trans (channelReset_of_rxSide hrx),
   fun _ h => step_of_pending h⟩

end Sys2Proof.Machine
end

section
/-! Reads of the register window: what a read leaves in the host's accumulator (R28), and the byte lanes of a buffer word (R25). -/
namespace Sys2Proof.Machine

/-! ## A read depends on nothing it changes (R28) -/

/-- A read leaves a value that does not depend on the accumulator, whatever row the offset selects. -/
theorem exec_decodeRead (width : Nat) (addr : Offset) :
    ∃ value : State → Word, (∀ s v, value (s.hostReads v) = value s) ∧
      ∀ s, exec (decodeRead width addr) s = .next (s.hostReads (value s)) := by
  unfold decodeRead
  repeat' split
  all_goals exact ⟨_, fun _ _ => rfl, fun _ => rfl⟩

/-- A read that ends in a next state is an admitted one. -/
theorem decodeAccess_read_of_next {width : Nat} {addr : Offset} {s t : State}
    (h : exec (decodeAccess (.read width addr)) s = .next t) : decodeAccess (.read width addr) = decodeRead width addr := by
  unfold decodeAccess at h ⊢
  split
  · rfl
  · next hnot =>
    rw [if_neg hnot] at h
    exact absurd h nofun

/-- Settles O32: the read changes only the accumulator, on which the value read does not depend. -/
theorem readsHaveNoSideEffects : Obligations.ReadsHaveNoSideEffects := by
  intro width addr s t h
  obtain ⟨value, hvalue, hread⟩ := exec_decodeRead width addr
  have hrow := decodeAccess_read_of_next h
  rw [hrow, hread] at h
  obtain rfl := Host.Outcome.next.inj h
  refine ⟨rfl, ?_⟩
  rw [hrow, hread, hvalue]
  rfl

/-! ## Byte lanes (R25) -/

theorem byteLane_wordOfLanes (b0 b1 b2 b3 : Byte) :
    byteLane (wordOfLanes b0 b1 b2 b3) 0 = b0 ∧ byteLane (wordOfLanes b0 b1 b2 b3) 1 = b1 ∧
    byteLane (wordOfLanes b0 b1 b2 b3) 2 = b2 ∧ byteLane (wordOfLanes b0 b1 b2 b3) 3 = b3 := by
  refine ⟨?_, ?_, ?_, ?_⟩ <;> ext i hi <;> simp [byteLane, wordOfLanes] <;> grind

/-- Lane `k` of a word read is the byte read at the word's index + `k`. -/
theorem readBuffer_byte_eq_lane (byteAt : Nat → Byte) (i : Nat) {k : Nat} (hk : k < 4) :
    readBuffer byteAt .byte (i + k) = (byteLane (readBuffer byteAt .word i) k).setWidth 32 := by
  obtain ⟨h0, h1, h2, h3⟩ := byteLane_wordOfLanes (byteAt i) (byteAt (i + 1)) (byteAt (i + 2)) (byteAt (i + 3))
  have hcases : k = 0 ∨ k = 1 ∨ k = 2 ∨ k = 3 := by omega
  rcases hcases with rfl | rfl | rfl | rfl <;> simp [readBuffer, h0, h1, h2, h3]

/-- Settles O33, for both buffers by the lanes of a buffer read. -/
theorem bufferWordsAreLittleEndian : Obligations.BufferWordsAreLittleEndian := by
  intro s t u i j k hk _ hj
  constructor
  all_goals
    intro hword hbyte
    obtain rfl := Host.Outcome.next.inj hword
    obtain rfl := Host.Outcome.next.inj hbyte
    simpa [hj, byteLane] using readBuffer_byte_eq_lane _ _ hk

end Sys2Proof.Machine
end

section
/-! Encoding what was decoded (R23, R26, R37, R39): the command words, then the offsets of the window, then the accesses. -/
namespace Sys2Proof

/-! ## Command words -/

theorem commandOp_eq_of_toNat {w : Word} {op : BitVec 4} (h : (commandOp w).toNat = op.toNat) : commandOp w = op :=
  BitVec.eq_of_toNat_eq h

theorem commandOp_setWidth (op : BitVec 4) : commandOp (op.setWidth 32) = op := by
  rw [commandOp, BitVec.extractLsb'_setWidth_of_le (by decide), BitVec.extractLsb'_eq_self]

/-- The word of CRC_UPDATE has its OP and its byte where R37 has them. -/
theorem crcUpdateWord_fields : ∀ b : Byte,
    commandOp (0x4 ||| (b.setWidth 32 <<< 8)) = 4 ∧ commandData (0x4 ||| (b.setWidth 32 <<< 8)) = b := by decide

/-- The operation of a command word is a matter of its OP, and of its DATA when the OP is CRC_UPDATE's (R37, R39 (b)). -/
theorem decodeCommand_congr {w w' : Word} (hop : commandOp w' = commandOp w)
    (hdata : commandOp w = 4 → commandData w' = commandData w) : decodeCommand w' = decodeCommand w := by
  unfold decodeCommand
  rw [hop]
  split
  case h_5 h => rw [hdata (commandOp_eq_of_toNat h)]
  all_goals rfl

/-- A decoded command word encodes to a word of the same OP, with the same DATA where it has any. -/
theorem encode_decodeCommand (start : Byte) (w : Word) : ∃ w', encode start (decodeCommand w) = .commandWord w' ∧
    commandOp w' = commandOp w ∧ (commandOp w = 4 → commandData w' = commandData w) := by
  have op {n : BitVec 4} (hn : (commandOp w).toNat = n.toNat) (hne : n ≠ 4) (w' : Word) (hw : commandOp w' = n) :
      commandOp w' = commandOp w ∧ (commandOp w = 4 → commandData w' = commandData w) := by
    rw [commandOp_eq_of_toNat hn]
    exact ⟨hw, fun h4 => absurd h4 hne⟩
  unfold decodeCommand
  split
  · next h => exact ⟨_, rfl, op (n := 0) h (by decide) _ (by decide)⟩
  · next h => exact ⟨_, rfl, op (n := 1) h (by decide) _ (by decide)⟩
  · next h => exact ⟨_, rfl, op (n := 2) h (by decide) _ (by decide)⟩
  · next h => exact ⟨_, rfl, op (n := 3) h (by decide) _ (by decide)⟩
  · next h =>
    obtain ⟨hop, hdata⟩ := crcUpdateWord_fields (commandData w)
    exact ⟨_, rfl, hop.trans (commandOp_eq_of_toNat h).symm, fun _ => hdata⟩
  · next h => exact ⟨_, rfl, op (n := 5) h (by decide) _ (by decide)⟩
  · next h => exact ⟨_, rfl, op (n := 6) h (by decide) _ (by rw [commandOp_setWidth, commandOp_eq_of_toNat]; exact h)⟩
  · next h => exact ⟨_, rfl, op (n := 7) h (by decide) _ (by rw [commandOp_setWidth, commandOp_eq_of_toNat]; exact h)⟩
  · next h4 _ _ _ => exact ⟨_, rfl, commandOp_setWidth _, fun h => absurd (congrArg BitVec.toNat h) h4⟩

/-! ## Offsets -/

theorem toNat_append_byte (hi : BitVec 4) (i : Byte) : (hi ++ i).toNat = hi.toNat * 256 + i.toNat := by
  rw [BitVec.toNat_append, ← Nat.shiftLeft_add_eq_or_of_lt i.isLt, Nat.shiftLeft_eq]

theorem toNat_bufIndex (a : Offset) : (bufIndex a).toNat = a.toNat % 256 := by
  simp [bufIndex]

theorem offRxBuf_bufIndex {a : Offset} (hlo : 0x100 ≤ a.toNat) (hhi : a.toNat < 0x200) : offRxBuf (bufIndex a) = a := by
  apply BitVec.eq_of_toNat_eq
  rw [offRxBuf, toNat_append_byte, toNat_bufIndex]
  simp
  omega

theorem offTxBuf_bufIndex {a : Offset} (hlo : 0x200 ≤ a.toNat) (hhi : a.toNat < 0x300) : offTxBuf (bufIndex a) = a := by
  apply BitVec.eq_of_toNat_eq
  rw [offTxBuf, toNat_append_byte, toNat_bufIndex]
  simp
  omega

/-- The first byte of an aligned word is the word's own index (R26). -/
theorem wordByteIndex_bufWordIndex {a : Offset} (h : aligned a = true) : wordByteIndex (bufWordIndex a) = bufIndex a := by
  have hmod : a.toNat % 4 = 0 := by simpa [aligned] using h
  apply BitVec.eq_of_toNat_eq
  rw [wordByteIndex, BitVec.toNat_append, bufWordIndex, bufIndex]
  simp [Nat.shiftRight_eq_div_pow, Nat.shiftLeft_eq]
  omega

/-! ## Accesses -/

theorem admitted_read_iff (w : Nat) (a : Offset) : (BusAccess.read w a).admitted = true ↔
    (w = 8 ∧ 0x100 ≤ a.toNat ∧ a.toNat < 0x300) ∨ (w = 32 ∧ aligned a = true) := by
  unfold BusAccess.admitted BusAccess.width BusAccess.addr
  grind

/-- A register or reserved offset admits 32-bit accesses only (R26 (a), (c)). -/
theorem width_of_admitted {w : Nat} {a : Offset} (h : (BusAccess.read w a).admitted = true)
    (ha : ¬ (0x100 ≤ a.toNat ∧ a.toNat < 0x300)) : w = 32 := by
  rcases (admitted_read_iff w a).1 h with ⟨_, hbuf⟩ | ⟨hw, _⟩
  · exact absurd hbuf ha
  · exact hw

theorem bits_ofBits {w : Nat} {a : Offset} (h : (BusAccess.read w a).admitted = true) : (BufWidth.ofBits w).bits = w := by
  rcases (admitted_read_iff w a).1 h with ⟨rfl, _⟩ | ⟨rfl, _⟩ <;> rfl

/-- An offset of a buffer is no register's (R23). -/
theorem ne_register_of_buffer {a : Offset} (h : 0x100 ≤ a.toNat) :
    a ≠ offCmd ∧ a ≠ offStatus ∧ a ≠ offRxInfo ∧ a ≠ offRxCrc ∧ a ≠ offRxCount ∧ a ≠ offTxCfg ∧ a ≠ offCrcValue := by
  refine ⟨?_, ?_, ?_, ?_, ?_, ?_, ?_⟩ <;> rintro rfl <;> exact absurd h (by decide)

theorem decodeRead_of_buffer {w : Nat} {a : Offset} (hlo : 0x100 ≤ a.toNat) (hhi : a.toNat < 0x300) :
    decodeRead w a = if a.toNat < 0x200 then .rdRxBuf (BufWidth.ofBits w) (bufIndex a)
      else .rdTxBuf (BufWidth.ofBits w) (bufIndex a) := by
  simp [decodeRead, ne_register_of_buffer hlo, hhi, Nat.not_lt.2 hlo]

theorem decodeWrite_of_buffer {w : Nat} {a : Offset} (v : Word) (hlo : 0x100 ≤ a.toNat) (hhi : a.toNat < 0x300) :
    decodeWrite w a v = if a.toNat < 0x200 then .wrRxBuf (BufWidth.ofBits w) (bufIndex a) v
      else if w = 8 then .wrbTxBuf (bufIndex a) (byteLane v 0) else .wrTxBuf (bufWordIndex a) v := by
  simp [decodeWrite, ne_register_of_buffer hlo, hhi, Nat.not_lt.2 hlo]

theorem encode_decodeRead_of_register (start : Byte) {a : Offset} (ha : ¬ (0x100 ≤ a.toNat ∧ a.toNat < 0x300)) :
    encode start (decodeRead 32 a) = .access (.read 32 a) := by
  unfold decodeRead
  grind [encode]

theorem encode_decodeWrite_of_register (start : Byte) {a : Offset} (v : Word) (ha : ¬ (0x100 ≤ a.toNat ∧ a.toNat < 0x300)) :
    encode start (decodeWrite 32 a v) = .access (.write 32 a v) := by
  unfold decodeWrite
  grind [encode]

theorem encode_decodeRead (start : Byte) {w : Nat} {a : Offset} (h : (BusAccess.read w a).admitted = true) :
    encode start (decodeRead w a) = .access (.read w a) := by
  by_cases ha : 0x100 ≤ a.toNat ∧ a.toNat < 0x300
  · obtain ⟨hlo, hhi⟩ := ha
    rw [decodeRead_of_buffer hlo hhi]
    split
    · next hrx => simp only [encode, bits_ofBits h, offRxBuf_bufIndex hlo hrx]
    · next htx => simp only [encode, bits_ofBits h, offTxBuf_bufIndex (Nat.not_lt.1 htx) hhi]
  · obtain rfl := width_of_admitted h ha
    exact encode_decodeRead_of_register start ha

/-- The lowest byte lane holds all of a word that has 8 bits. -/
theorem setWidth_byteLane_zero {v : Word} (h : v.toNat < 0x100) : (byteLane v 0).setWidth 32 = v := by
  apply BitVec.eq_of_toNat_eq
  simp [byteLane]
  omega

theorem encode_decodeWrite (start : Byte) {w : Nat} {a : Offset} {v : Word} (h : (BusAccess.write w a v).admitted = true)
    (hv : w = 8 → v.toNat < 0x100) : encode start (decodeWrite w a v) = .access (.write w a v) := by
  have hread : (BusAccess.read w a).admitted = true := h
  by_cases ha : 0x100 ≤ a.toNat ∧ a.toNat < 0x300
  · obtain ⟨hlo, hhi⟩ := ha
    rw [decodeWrite_of_buffer v hlo hhi]
    split
    · next hrx => simp only [encode, bits_ofBits hread, offRxBuf_bufIndex hlo hrx]
    · next htx =>
      have hoff := offTxBuf_bufIndex (Nat.not_lt.1 htx) hhi
      rcases (admitted_read_iff w a).1 hread with ⟨rfl, _⟩ | ⟨rfl, hal⟩
      · simp [encode, hoff, setWidth_byteLane_zero (hv rfl)]
      · simp [encode, wordByteIndex_bufWordIndex hal, hoff]
  · obtain rfl := width_of_admitted hread ha
    exact encode_decodeWrite_of_register start v ha

/-- An illegal access is its own operand (R91); an admitted one is a read's or a write's row. -/
theorem encode_decodeAccess (start : Byte) (a : BusAccess) (ha : ∀ addr data, a = .write 8 addr data → data.toNat < 0x100) :
    encode start (decodeAccess a) = .access a := by
  unfold decodeAccess
  split
  · next hadm =>
    cases a with
    | read w addr => exact encode_decodeRead start hadm
    | write w addr v => exact encode_decodeWrite start hadm fun hw => ha addr v (by rw [hw])
  · rfl

/-- Settles O2, from the encoding of what the two decoders answer. -/
theorem encodeOfDecodeKeepsTheEncoding : Obligations.EncodeOfDecodeKeepsTheEncoding := by
  refine ⟨fun start _ a ha => encode_decodeAccess start a ha, fun start _ w => ?_⟩
  obtain ⟨w', henc, hop, hdata⟩ := encode_decodeCommand start w
  exact ⟨w', henc, hop, decodeCommand_congr hop hdata⟩

end Sys2Proof
end

section
/-! The two engines do not disturb each other (R13, R33 (d), R34): what the RX steps and the TX step neither read nor write. -/
namespace Sys2Proof.Machine

/-! ## Updates that ignore one side of the state

`withSide s u` is `s` with one side of the state taken from `u`: `State.withTxSide` or `State.withRxSide`. -/

/-- The update neither reads nor writes the side that `withSide` replaces. -/
def Ignores (withSide : State → State → State) (f : State → State) : Prop :=
  ∀ s u, f (withSide s u) = withSide (f s) u ∧ withSide (f s) s = f s

/-- The same of an operation that ends in a next state. -/
def OperationIgnores (withSide : State → State → State) (run : State → Result) : Prop :=
  ∀ s u t, run s = .next t → run (withSide s u) = .next (withSide t u) ∧ withSide t s = t

section

variable {withSide : State → State → State} {f g : State → State}

theorem Ignores.comp (hg : Ignores withSide g) (hf : Ignores withSide f) : Ignores withSide (fun s => g (f s)) := fun s u =>
  ⟨calc g (f (withSide s u)) = g (withSide (f s) u) := by rw [(hf s u).1]
    _ = withSide (g (f s)) u := (hg (f s) u).1,
   calc withSide (g (f s)) s = g (withSide (f s) s) := (hg (f s) s).1.symm
    _ = g (f s) := by rw [(hf s s).2]⟩

/-- A branch on a condition that does not read the side. -/
theorem Ignores.ite {c : State → Prop} [DecidablePred c] (hc : ∀ s u, c (withSide s u) ↔ c s) (hf : Ignores withSide f)
    (hg : Ignores withSide g) : Ignores withSide (fun s => if c s then f s else g s) := fun s u => by
  simp only [hc]
  split
  · exact hf s u
  · exact hg s u

/-- An operation with an effect under a condition, where neither regards the side. -/
theorem OperationIgnores.of_effect {run : State → Result} {c : State → Bool}
    (hrun : ∀ s, run s = if c s then .next (f s) else .next s) (hc : ∀ s u, c (withSide s u) = c s) (hf : Ignores withSide f)
    (hsame : ∀ s, withSide s s = s) : OperationIgnores withSide run := fun s u t h => by
  rw [hrun] at h
  rw [hrun, hc]
  cases hcond : c s with
  | true =>
    obtain rfl : f s = t := by simpa [hcond] using h
    simpa using hf s u
  | false =>
    obtain rfl : s = t := by simpa [hcond] using h
    simpa using hsame s

end

/-! ## The RX steps -/

theorem lengthDeclared_ignoresTxSide : Ignores State.withTxSide State.lengthDeclared :=
  .ite (fun _ _ => Iff.rfl) (fun _ _ => ⟨rfl, rfl⟩)
    (.ite (fun _ _ => Iff.rfl) (fun _ _ => ⟨rfl, rfl⟩) (fun _ _ => ⟨rfl, rfl⟩))

theorem checkChecksum_ignoresTxSide : Ignores State.withTxSide State.checkChecksum :=
  .ite (fun _ _ => Iff.rfl) (fun _ _ => ⟨rfl, rfl⟩) (fun _ _ => ⟨rfl, rfl⟩)

/-- An operation whose condition is of the RX side. -/
theorem OperationIgnores.of_rxEffect {run : State → Result} {c : State → Bool} {f : State → State}
    (hrun : ∀ s, run s = if c s then .next (f s) else .next s) (hc : ∀ s u, c (s.withTxSide u) = c s)
    (hf : Ignores State.withTxSide f) : OperationIgnores State.withTxSide run :=
  .of_effect hrun hc hf fun _ => rfl

/-- A data-byte row's condition reads nothing of the TX side, so the row ignores that side when its effect does. -/
theorem onDataByte_ignoresTxSide {st : RxState} {d : Byte} {f : State → State} (hf : Ignores State.withTxSide f) :
    OperationIgnores State.withTxSide (onDataByte st d f) :=
  .of_rxEffect (fun _ => rfl) (fun _ _ => rfl) hf

/-- The last tick posts a result, any other counts down (R72, R73). -/
theorem execEnvTick_ignoresTxSide : OperationIgnores State.withTxSide execEnvTick := by
  refine .of_rxEffect (c := State.rxBusy) (fun s => ?_) (fun _ _ => rfl)
    (.ite (c := fun s => s.rxTimer.toNat ≤ 1) (f := fun s => s.postResult .timeout)
      (g := fun s => { s with rxTimer := s.rxTimer - 1 }) (fun _ _ => Iff.rfl) (fun _ _ => ⟨rfl, rfl⟩) fun _ _ => ⟨rfl, rfl⟩)
  rw [apply_ite Host.Outcome.next]
  rfl

/-- Every RX byte row, the tick and the timeout, in the order of the list. -/
theorem rxOperations_ignoreTxSide (d : Byte) :
    ∀ i ∈ [Instr.rxStart, .rxWait d, .rxSeq d, .rxLenLo d, .rxLenHi d, .rxPayload d, .rxCrcLo d, .rxCrcHi d, .envTick,
      .envTimeout], OperationIgnores State.withTxSide (exec i) := by
  simp only [List.forall_mem_cons]
  exact ⟨.of_rxEffect (run := execRxStart) (c := State.rxBusy) (fun _ => rfl) (fun _ _ => rfl) fun _ _ => ⟨rfl, rfl⟩,
    onDataByte_ignoresTxSide fun _ _ => ⟨rfl, rfl⟩,
    onDataByte_ignoresTxSide fun _ _ => ⟨rfl, rfl⟩,
    onDataByte_ignoresTxSide fun _ _ => ⟨rfl, rfl⟩,
    onDataByte_ignoresTxSide (lengthDeclared_ignoresTxSide.comp fun _ _ => ⟨rfl, rfl⟩),
    onDataByte_ignoresTxSide fun _ _ => ⟨rfl, rfl⟩,
    onDataByte_ignoresTxSide fun _ _ => ⟨rfl, rfl⟩,
    onDataByte_ignoresTxSide (checkChecksum_ignoresTxSide.comp fun _ _ => ⟨rfl, rfl⟩),
    execEnvTick_ignoresTxSide,
    .of_rxEffect (run := execEnvTimeout) (c := State.rxBusy) (fun _ => rfl) (fun _ _ => rfl) fun _ _ => ⟨rfl, rfl⟩,
    nofun⟩

/-- Settles O45: each row's condition and effect ignore the TX side. -/
theorem rxStepsIgnoreTheTxSide : Obligations.RxStepsIgnoreTheTxSide := fun d i s u t hi h =>
  rxOperations_ignoreTxSide d i hi s u t h

/-! ## The TX step -/

/-- What one wire byte writes is of the TX side and computed from it and the parameters. -/
theorem emitByte_ignoresRxSide : Ignores State.withRxSide State.emitByte := fun s u => by
  simp only [State.emitByte_eq]
  exact ⟨rfl, rfl⟩

/-- Settles O46: `tx_busy` is of the TX side, and the emission ignores the RX side. -/
theorem txStepsIgnoreTheRxSide : Obligations.TxStepsIgnoreTheRxSide :=
  OperationIgnores.of_effect (run := execTxEmit) (c := State.txBusy) (fun _ => rfl) (fun _ _ => rfl) emitByte_ignoresRxSide
    fun _ => rfl

end Sys2Proof.Machine
end

section
/-! The lock over the frame in flight (R33 (a), (b), R86, R87). -/
namespace Sys2Proof.Machine

/-! ## The model's own fields, which no operation writes -/

theorem State.lengthDeclared_pending_resets (s : State) :
    s.lengthDeclared.pending = s.pending ∧ s.lengthDeclared.resets = s.resets := by
  rcases s.lengthDeclared_cases with ⟨_, h⟩ | ⟨_, _, h⟩ | ⟨_, _, h⟩ <;> rw [h] <;> exact ⟨rfl, rfl⟩

theorem State.checkChecksum_pending_resets (s : State) :
    s.checkChecksum.pending = s.pending ∧ s.checkChecksum.resets = s.resets := by
  rcases s.checkChecksum_cases with ⟨_, h⟩ | ⟨_, h⟩ <;> rw [h] <;> exact ⟨rfl, rfl⟩

/-- No operation changes the stimuli that wait, or draws the buffers anew (log 1, log 3). -/
theorem ExecEffect.pending_resets_eq {s t : State} {i : Instr} (h : ExecEffect s i t) :
    t.pending = s.pending ∧ t.resets = s.resets := by
  cases h with
  | rxLenHi d => simp [State.lengthDeclared_pending_resets]
  | rxCrcHi d => simp [State.checkChecksum_pending_resets]
  | txEmit =>
    rw [State.emitByte_eq]
    exact ⟨rfl, rfl⟩
  | wrTxBuf k v =>
    rw [State.storeTxWord_eq]
    exact ⟨rfl, rfl⟩
  | _ => exact ⟨rfl, rfl⟩

/-! ## What is being sent -/

/-- While a frame is in flight no operation writes `tx_seq`, `tx_len` or `tx_buf` (R33 (a), (b)). -/
theorem ExecEffect.keeps_frame {s t : State} {i : Instr} (h : ExecEffect s i t) (hb : s.txBusy = true) :
    t.txSeq = s.txSeq ∧ t.txLen = s.txLen ∧ t.txBuf = s.txBuf := by
  cases h with
  | wrTxCfg _ hidle | wrbTxBuf _ _ hidle | wrTxBuf _ _ hidle => exact absurd (hb.symm.trans hidle) nofun
  | rxLenHi d =>
    rw [State.lengthDeclared_eq_withTxSide]
    exact ⟨rfl, rfl, rfl⟩
  | rxCrcHi d =>
    rw [State.checkChecksum_eq_withTxSide]
    exact ⟨rfl, rfl, rfl⟩
  | txEmit =>
    rw [State.emitByte_eq]
    exact ⟨rfl, rfl, rfl⟩
  | _ => exact ⟨rfl, rfl, rfl⟩

/-- Only the emission of a byte or a channel reset ends a transmission (R20). -/
theorem TransmitFlagEffect.ends_busy {s t : State} {i : Instr} (h : TransmitFlagEffect s i t) (hb : s.txBusy = true)
    (ht : t.txBusy = false) : i = .txEmit ∨ i = .envResetTx := by
  cases h with
  | finished hi => exact .inl hi
  | aborted hi => exact .inr hi
  | kept hbusy | started _ hbusy | cleared _ _ hbusy => simp_all

/-- Settles O47, by what the operation's effect keeps and does to `tx_busy`. -/
theorem lockProtectsTheFrameInFlight : Obligations.LockProtectsTheFrameInFlight := by
  intro i s t hb h
  have heffect := exec_effect i s t h
  obtain ⟨hseq, hlen, hbuf⟩ := heffect.keeps_frame hb
  obtain ⟨_, hresets⟩ := heffect.pending_resets_eq
  exact ⟨hseq, hlen, State.txByte_congr s t heffect.cfg_eq hbuf hresets, heffect.transmitFlags.ends_busy hb⟩

end Sys2Proof.Machine
end

section
/-! A command is complete in its write (R31, R116): what the host reads right after the write of a command word. -/
namespace Sys2Proof.Machine

/-! ## The fields of STATUS (R40) -/

theorem State.statusWord_rxBusy (s : State) : s.statusWord.getLsbD 0 = s.rxBusy := by
  simp [State.statusWord, flagWord]

theorem State.statusWord_txBusy (s : State) : s.statusWord.getLsbD 2 = s.txBusy := by
  simp [State.statusWord, flagWord]

theorem State.statusWord_txDone (s : State) : s.statusWord.getLsbD 3 = s.txDone := by
  simp [State.statusWord, flagWord]

theorem State.statusWord_cmdErr (s : State) : s.statusWord.getLsbD 4 = s.cmdErr := by
  simp [State.statusWord, flagWord]

theorem State.statusWord_cmdCause (s : State) : s.statusWord.extractLsb' 16 4 = s.cmdCause.code := by
  ext i hi
  interval_cases i <;> simp [State.statusWord, flagWord]

theorem State.crcValueWord_eq_append (s : State) : s.crcValueWord = 0#16 ++ crcFinal s.cfg.crc s.crcAcc :=
  BitVec.setWidth_eq_append (by decide)

/-! ## What a command leaves (R82) -/

/-- The decoder and the write to CMD distinguish the OP alike: by cases on its number. -/
theorem exec_decodeCommand (w : Word) (s : State) : exec (decodeCommand w) s = execWrCmd w s := by
  unfold decodeCommand execWrCmd
  generalize (commandOp w).toNat = op
  match op with
  | 0 | 1 | 2 | 3 | 4 | 5 | 6 | 7 => rfl
  | _ + 8 => rfl

theorem execRecv_leaves {s m : State} (h : execRecv s = .next m) :
    m.rxBusy = true ∧ (s.rxBusy = true → m.cmdErr = true ∧ m.cmdCause = .rxBusy) := by
  rcases execRecv_cases s m h with ⟨hb, rfl⟩ | ⟨hb, rfl⟩ <;> simp [hb]

theorem execSend_leaves {s m : State} (h : execSend s = .next m) :
    (s.txBusy = true → m.cmdErr = true ∧ m.cmdCause = .txBusy) ∧
    (s.txBusy = false → s.cfg.maxPayload < s.txLen.toNat → m.cmdErr = true ∧ m.cmdCause = .txLength) ∧
    (s.txBusy = false → s.txLen.toNat ≤ s.cfg.maxPayload → m.txBusy = true ∧ m.txDone = false) := by
  rcases execSend_cases s m h with ⟨hb, rfl⟩ | ⟨hb, hl, rfl⟩ | ⟨hb, hl, rfl⟩ <;> simp [hb] <;> omega

/-- A reserved OP is rejected as such (R84). -/
theorem execWrCmd_reserved {w : Word} (s : State) (h : 5 ≤ (commandOp w).toNat) :
    execWrCmd w s = .next (s.rejectCommand .reservedOp) := by
  unfold execWrCmd
  split
  case h_1 | h_2 | h_3 | h_4 | h_5 => omega
  all_goals rfl

theorem execRecv_ends (s : State) : ∃ m, execRecv s = .next m := by
  unfold execRecv
  split <;> exact ⟨_, rfl⟩

theorem execSend_ends (s : State) : ∃ m, execSend s = .next m := by
  unfold execSend
  repeat' split
  all_goals exact ⟨_, rfl⟩

/-- Every command word has a next state: a command is executed or rejected, and never stops the host (R82, R93). -/
theorem execWrCmd_ends (w : Word) (s : State) : ∃ m, execWrCmd w s = .next m := by
  rcases execWrCmd_cases w s with hnop | hrecv | hsend | hinit | hupdate | hreserved
  · exact ⟨s, hnop⟩
  · exact hrecv ▸ execRecv_ends s
  · exact hsend ▸ execSend_ends s
  · exact ⟨_, hinit⟩
  · exact ⟨_, hupdate⟩
  · exact ⟨_, hreserved⟩

/-! ## What the registers then show -/

/-- A rejection shows as CMD_ERR with its cause (R40, R93). -/
theorem State.statusWord_of_rejected {m : State} {c : CmdCause} (h : m.cmdErr = true ∧ m.cmdCause = c) :
    m.statusWord.getLsbD 4 = true ∧ m.statusWord.extractLsb' 16 4 = c.code :=
  ⟨m.statusWord_cmdErr.trans h.1, m.statusWord_cmdCause.trans (congrArg _ h.2)⟩

theorem statusWord_after_recv {w : Word} {s m : State} (hm : execWrCmd w s = .next m) (hop : commandOp w = 1) :
    m.statusWord.getLsbD 0 = true ∧
    (s.rxBusy = true → m.statusWord.getLsbD 4 = true ∧ m.statusWord.extractLsb' 16 4 = 2#4) := by
  rw [show execWrCmd w s = execRecv s by simp [execWrCmd, hop]] at hm
  obtain ⟨hbusy, hrejected⟩ := execRecv_leaves hm
  exact ⟨m.statusWord_rxBusy.trans hbusy, fun hb => State.statusWord_of_rejected (hrejected hb)⟩

theorem statusWord_after_send {w : Word} {s m : State} (hm : execWrCmd w s = .next m) (hop : commandOp w = 2) :
    (s.txBusy = true → m.statusWord.getLsbD 4 = true ∧ m.statusWord.extractLsb' 16 4 = 3#4) ∧
    (s.txBusy = false → s.cfg.maxPayload < s.txLen.toNat →
      m.statusWord.getLsbD 4 = true ∧ m.statusWord.extractLsb' 16 4 = 4#4) ∧
    (s.txBusy = false → s.txLen.toNat ≤ s.cfg.maxPayload →
      m.statusWord.getLsbD 2 = true ∧ m.statusWord.getLsbD 3 = false) := by
  rw [show execWrCmd w s = execSend s by simp [execWrCmd, hop]] at hm
  obtain ⟨hbusy, hlength, hstarted⟩ := execSend_leaves hm
  refine ⟨fun hb => State.statusWord_of_rejected (hbusy hb), fun hb hl => State.statusWord_of_rejected (hlength hb hl),
    fun hb hl => ?_⟩
  obtain ⟨htx, hdone⟩ := hstarted hb hl
  exact ⟨m.statusWord_txBusy.trans htx, m.statusWord_txDone.trans hdone⟩

theorem statusWord_after_reserved {w : Word} {s m : State} (hm : execWrCmd w s = .next m) (hop : 5 ≤ (commandOp w).toNat) :
    m.statusWord.getLsbD 4 = true ∧ m.statusWord.extractLsb' 16 4 = 1#4 := by
  obtain rfl := Host.Outcome.next.inj ((execWrCmd_reserved s hop).symm.trans hm)
  exact State.statusWord_of_rejected ⟨rfl, rfl⟩

theorem crcValueWord_after_crcInit {w : Word} {s m : State} (hm : execWrCmd w s = .next m) (hop : commandOp w = 3) :
    m.crcValueWord = 0#16 ++ crcFinal s.cfg.crc s.cfg.crc.init := by
  rw [show execWrCmd w s = execCrcInit s by simp [execWrCmd, hop]] at hm
  obtain rfl := Host.Outcome.next.inj hm
  exact State.crcValueWord_eq_append _

theorem crcValueWord_after_crcUpdate {w : Word} {s m : State} (hm : execWrCmd w s = .next m) (hop : commandOp w = 4) :
    m.crcValueWord = 0#16 ++ crcFinal s.cfg.crc (crcUpdate s.cfg.crc s.crcAcc (commandData w)) := by
  rw [show execWrCmd w s = execCrcUpdate (commandData w) s by simp [execWrCmd, hop]] at hm
  obtain rfl := Host.Outcome.next.inj hm
  exact State.crcValueWord_eq_append _

/-! ## The write and the read after it -/

/-- Two steps: the write runs the whole command, and leaves the read the next in line (R31). -/
theorem run_write_read {s m : State} {w : Word} {addr : Offset} {later : List Stimulus}
    (hp : s.pending = .bus (.write 32 0x000 w) :: .bus (.read 32 addr) :: later)
    (hm : execWrCmd w { s with pending := .bus (.read 32 addr) :: later } = .next m) :
    core.run 2 s = exec (decodeAccess (.read 32 addr)) { m with pending := later } := by
  have hwrite : step s = .next m := (step_of_pending hp).trans hm
  have hpending : m.pending = .bus (.read 32 addr) :: later := (execWrCmd_effect w _ m hm).pending_resets_eq.1
  exact (run_succ core 1 s m hwrite).trans ((run_one core m).trans (step_of_pending hpending))

/-- Settles O56: the read is of the state the command leaves, and STATUS and CRC_VALUE show its fields. -/
theorem commandsCompleteInTheirWrite : Obligations.CommandsCompleteInTheirWrite := by
  intro s w addr later hp
  obtain ⟨m, hm⟩ := execWrCmd_ends w { s with pending := .bus (.read 32 addr) :: later }
  have hrun := run_write_read hp hm
  refine ⟨⟨m, (exec_decodeCommand w _).trans hm, hrun⟩, ?_, ?_⟩
  · rintro rfl
    have hrecv := statusWord_after_recv hm
    have hsend := statusWord_after_send hm
    have hreserved := statusWord_after_reserved hm
    exact ⟨_, hrun, hrecv, hsend, hreserved⟩
  · rintro rfl
    have hinit := crcValueWord_after_crcInit hm
    have hupdate := crcValueWord_after_crcUpdate hm
    exact ⟨_, hrun, hinit, hupdate⟩

end Sys2Proof.Machine
end

section
/-! Decoding what was encoded (R23, R26, R37, R38, R49), the words of the tables, and the codes of the STATUS fields
(R41 to R44). -/
namespace Sys2Proof
open Laws.EncodedAccess (admitted_of_bufOperand wordByteIndex_aligned)

/-! ## Command words (R37, R38) -/

theorem decodeCommand_crcUpdateWord (b : Byte) : decodeCommand (0x4 ||| (b.setWidth 32 <<< 8)) = .crcUpdate b := by
  obtain ⟨hop, hdata⟩ := crcUpdateWord_fields b
  rw [decodeCommand, hop, hdata]
  rfl

theorem decodeCommand_reservedOp6to7 {op : BitVec 4} (h : op = 6 ∨ op = 7) :
    decodeCommand (op.setWidth 32) = .reservedOp6to7 op := by
  rcases h with rfl | rfl <;> decide

theorem decodeCommand_reservedOp8toF {op : BitVec 4} (h : 8 ≤ op.toNat) :
    decodeCommand (op.setWidth 32) = .reservedOp8toF op := by
  unfold decodeCommand
  rw [commandOp_setWidth]
  split
  case h_9 => rfl
  all_goals omega

/-! ## The start byte -/

/-- R49: the start byte is tested before the state. -/
theorem decode_wireIn_start (start : Byte) (st : RxState) : decode start st (.wireIn start) = .rxStart := if_pos rfl

/-! ## Buffer offsets (R23, R40) -/

theorem toNat_offRxBuf (i : Byte) : (offRxBuf i).toNat = 0x100 + i.toNat := toNat_append_byte 1 i

theorem toNat_offTxBuf (i : Byte) : (offTxBuf i).toNat = 0x200 + i.toNat := toNat_append_byte 2 i

theorem bufIndex_offRxBuf (i : Byte) : bufIndex (offRxBuf i) = i := by
  apply BitVec.eq_of_toNat_eq
  rw [toNat_bufIndex, toNat_offRxBuf]
  omega

theorem bufIndex_offTxBuf (i : Byte) : bufIndex (offTxBuf i) = i := by
  apply BitVec.eq_of_toNat_eq
  rw [toNat_bufIndex, toNat_offTxBuf]
  omega

theorem toNat_wordByteIndex (k : BitVec 6) : (wordByteIndex k).toNat = k.toNat * 4 := by
  rw [wordByteIndex, BitVec.toNat_append, BitVec.toNat_ofNat, Nat.shiftLeft_eq]
  exact Nat.or_zero _

theorem bufWordIndex_offTxBuf (k : BitVec 6) : bufWordIndex (offTxBuf (wordByteIndex k)) = k := by
  apply BitVec.eq_of_toNat_eq
  rw [bufWordIndex, BitVec.extractLsb'_toNat, toNat_offTxBuf, toNat_wordByteIndex, Nat.shiftRight_eq_div_pow]
  omega

theorem ofBits_bits (w : BufWidth) : BufWidth.ofBits w.bits = w := by cases w <;> rfl

theorem byteLane_setWidth_zero (b : Byte) : byteLane (b.setWidth 32) 0 = b := by
  rw [byteLane, BitVec.extractLsb'_setWidth_of_le (by decide), BitVec.extractLsb'_eq_self]

/-! ## Accesses (R23, R26) -/

theorem decodeAccess_read_of_admitted {w : Nat} {a : Offset} (h : (BusAccess.read w a).admitted = true) :
    decodeAccess (.read w a) = decodeRead w a := if_pos h

/-- Admission looks at the width and the offset only, so a write is admitted where the read is. -/
theorem decodeAccess_write_of_admitted {w : Nat} {a : Offset} (v : Word) (h : (BusAccess.read w a).admitted = true) :
    decodeAccess (.write w a v) = decodeWrite w a v := if_pos h

section
variable {w : BufWidth} {i : Byte} (h : bufOperandWf w i = true)
include h

theorem admitted_offRxBuf : (BusAccess.read w.bits (offRxBuf i)).admitted = true :=
  admitted_of_bufOperand w i 1 (.inl rfl) h

theorem admitted_offTxBuf : (BusAccess.read w.bits (offTxBuf i)).admitted = true :=
  admitted_of_bufOperand w i 2 (.inr rfl) h

theorem decodeAccess_read_offRxBuf : decodeAccess (.read w.bits (offRxBuf i)) = .rdRxBuf w i := by
  have hoff := toNat_offRxBuf i
  rw [decodeAccess_read_of_admitted (admitted_offRxBuf h), decodeRead_of_buffer (by omega) (by omega), if_pos (by omega),
    ofBits_bits, bufIndex_offRxBuf]

theorem decodeAccess_write_offRxBuf (v : Word) : decodeAccess (.write w.bits (offRxBuf i) v) = .wrRxBuf w i v := by
  have hoff := toNat_offRxBuf i
  rw [decodeAccess_write_of_admitted v (admitted_offRxBuf h), decodeWrite_of_buffer v (by omega) (by omega),
    if_pos (by omega), ofBits_bits, bufIndex_offRxBuf]

theorem decodeAccess_read_offTxBuf : decodeAccess (.read w.bits (offTxBuf i)) = .rdTxBuf w i := by
  have hoff := toNat_offTxBuf i
  rw [decodeAccess_read_of_admitted (admitted_offTxBuf h), decodeRead_of_buffer (by omega) (by omega), if_neg (by omega),
    ofBits_bits, bufIndex_offTxBuf]

theorem decodeAccess_write_offTxBuf (v : Word) : decodeAccess (.write w.bits (offTxBuf i) v) =
    if w.bits = 8 then .wrbTxBuf i (byteLane v 0) else .wrTxBuf (bufWordIndex (offTxBuf i)) v := by
  have hoff := toNat_offTxBuf i
  rw [decodeAccess_write_of_admitted v (admitted_offTxBuf h), decodeWrite_of_buffer v (by omega) (by omega),
    if_neg (by omega), bufIndex_offTxBuf]

end

theorem decodeAccess_writeByte_offTxBuf (i b : Byte) :
    decodeAccess (.write 8 (offTxBuf i) (b.setWidth 32)) = .wrbTxBuf i b :=
  (decodeAccess_write_offTxBuf (w := .byte) rfl _).trans (congrArg (Instr.wrbTxBuf i) (byteLane_setWidth_zero b))

theorem decodeAccess_writeWord_offTxBuf (k : BitVec 6) (v : Word) :
    decodeAccess (.write 32 (offTxBuf (wordByteIndex k)) v) = .wrTxBuf k v :=
  (decodeAccess_write_offTxBuf (wordByteIndex_aligned k) v).trans
    (congrArg (Instr.wrTxBuf · v) (bufWordIndex_offTxBuf k))

/-- A reserved offset lies below the buffers or above them, and is no register's (R23). -/
theorem reservedOffset_cases {a : Offset} (h : reservedOffset a = true) :
    (a.toNat < 0x100 ∨ ¬ a.toNat < 0x100 ∧ ¬ a.toNat < 0x200 ∧ ¬ a.toNat < 0x300) ∧
    a ≠ offCmd ∧ a ≠ offStatus ∧ a ≠ offRxInfo ∧ a ≠ offRxCrc ∧ a ≠ offRxCount ∧ a ≠ offTxCfg ∧ a ≠ offCrcValue := by
  constructor
  · have hrange : 0x01C ≤ a.toNat ∧ a.toNat < 0x100 ∨ 0x300 ≤ a.toNat := by simpa [reservedOffset] using h
    omega
  · refine ⟨?_, ?_, ?_, ?_, ?_, ?_, ?_⟩ <;> rintro rfl <;> exact absurd h (by decide)

section
variable {a : Offset} (h : (aligned a && reservedOffset a) = true)
include h

theorem decodeAccess_read_of_reserved : decodeAccess (.read 32 a) = .rdReserved a := by
  obtain ⟨hal, hres⟩ := Bool.and_eq_true_iff.1 h
  obtain ⟨hout, hreg⟩ := reservedOffset_cases hres
  rw [decodeAccess_read_of_admitted ((admitted_read_iff 32 a).2 (.inr ⟨rfl, hal⟩))]
  rcases hout with hout | hout <;> simp [decodeRead, hreg, hout]

theorem decodeAccess_write_of_reserved (v : Word) : decodeAccess (.write 32 a v) = .wrReserved a v := by
  obtain ⟨hal, hres⟩ := Bool.and_eq_true_iff.1 h
  obtain ⟨hout, hreg⟩ := reservedOffset_cases hres
  rw [decodeAccess_write_of_admitted v ((admitted_read_iff 32 a).2 (.inr ⟨rfl, hal⟩))]
  rcases hout with hout | hout <;> simp [decodeWrite, hreg, hout]

end

/-! ## The round trip -/

theorem decode_encode (start : Byte) (st : RxState) {i : Instr} (h : i.wf start = true) :
    decode start (i.rxContext.getD st) (encode start i) = i := by
  cases i with
  | nop | recv | send | crcInit | reservedOp5 => rfl
  | crcUpdate b => exact decodeCommand_crcUpdateWord b
  | reservedOp6to7 op => exact decodeCommand_reservedOp6to7 (by simpa [Instr.wf] using h)
  | reservedOp8toF op => exact decodeCommand_reservedOp8toF (by simpa [Instr.wf] using h)
  | rxStart => exact decode_wireIn_start start st
  | rxWait d | rxSeq d | rxLenLo d | rxLenHi d | rxPayload d | rxCrcLo d | rxCrcHi d =>
    exact if_neg (by simpa [Instr.wf] using h)
  | txEmit | envTick | envTimeout | envResetRx | envResetTx => rfl
  | wrCmd v | wrStatus v | wrTxCfg v | wrRxInfo v | wrRxCrc v | wrRxCount v | wrCrcValue v =>
    exact decodeAccess_write_of_admitted v (by decide)
  | wrbTxBuf i b => exact decodeAccess_writeByte_offTxBuf i b
  | wrTxBuf k v => exact decodeAccess_writeWord_offTxBuf k v
  | wrRxBuf w i v => exact decodeAccess_write_offRxBuf h v
  | wrReserved a v => exact decodeAccess_write_of_reserved h v
  | rdCmd | rdStatus | rdRxInfo | rdRxCrc | rdRxCount | rdTxCfg | rdCrcValue => rfl
  | rdReserved a => exact decodeAccess_read_of_reserved h
  | rdRxBuf w i => exact decodeAccess_read_offRxBuf h
  | rdTxBuf w i => exact decodeAccess_read_offTxBuf h
  | illegalAccess a => exact if_neg (by simpa [Instr.wf] using h)

/-- Settles O1, row by row of the opcode table. -/
theorem decodeOfEncodeIsTheOperation : Obligations.DecodeOfEncodeIsTheOperation :=
  fun start st _ h => decode_encode start st h

/-! ## The words of the tables -/

/-- Settles O3, from the model's words and the start byte in any state. -/
theorem wordsOfTheTablesDecode : Obligations.WordsOfTheTablesDecode :=
  ⟨decode_word_recv, decode_word_crcUpdate, decode_word_reservedOp8toF, decode_wireIn_start _ _, decode_byte_rxLenHi,
    decode_wr_014, decode_wrb_2FF, decode_rd_FFC, decode_illegal_misaligned⟩

/-! ## Codes (R41 to R44) -/

theorem RxState.code_lt (x : RxState) : x.code.toNat < 7 := by cases x <;> decide

theorem RxResult.code_lt (x : RxResult) : x.code.toNat < 6 := by cases x <;> decide

theorem Health.code_lt (x : Health) : x.code.toNat < 3 := by cases x <;> decide

theorem CmdCause.code_lt (x : CmdCause) : x.code.toNat < 5 := by cases x <;> decide

/-- Settles O29: the lists by evaluation, the reserved codes by the bound of each code. -/
theorem codesOfStatusFields : Obligations.CodesOfStatusFields :=
  ⟨rfl, rfl, rfl, rfl, RxState.code_lt, RxResult.code_lt, Health.code_lt, CmdCause.code_lt⟩

end Sys2Proof
end

section
/-! The arithmetic of the CRC register (R51, R53). One turn of R51's loop is linear over GF(2), and so are the byte update and the
fold; it is also injective when the polynomial has the term 1, and so are the byte update, the fold and `crc_final`; and while no
1 falls out it is a plain shift. -/
namespace Sys2Proof

/-! ## The register is linear over GF(2) -/

/-- Reduction as a XOR: of the polynomial or of nothing, as bit 15 says. -/
theorem crcShift_eq_xor (p : CrcProfile) (c : Half) : crcShift p c = c <<< 1 ^^^ if c.getLsbD 15 then p.poly else 0 := by
  unfold crcShift
  split
  · rfl
  · exact BitVec.xor_zero.symm

theorem crcShift_xor (p : CrcProfile) (c d : Half) : crcShift p (c ^^^ d) = crcShift p c ^^^ crcShift p d := by
  have hreduce (x y : Bool) : (if x ^^ y then p.poly else 0) = (if x then p.poly else 0) ^^^ (if y then p.poly else 0) := by
    cases x <;> cases y <;> simp
  rw [crcShift_eq_xor, crcShift_eq_xor, crcShift_eq_xor, BitVec.getLsbD_xor, BitVec.shiftLeft_xor_distrib, hreduce]
  ac_rfl

theorem crcShifts_xor (p : CrcProfile) (n : Nat) (c d : Half) :
    crcShifts p n (c ^^^ d) = crcShifts p n c ^^^ crcShifts p n d := by
  induction n generalizing c d with
  | zero => rfl
  | succ n ih => simp only [crcShifts, crcShift_xor, ih]

theorem reverse_xor {w : Nat} (x y : BitVec w) : (x ^^^ y).reverse = x.reverse ^^^ y.reverse := by
  ext i hi
  simp [BitVec.getElem_reverse]

theorem crcInByte_xor (p : CrcProfile) (x y : Byte) : crcInByte p (x ^^^ y) = crcInByte p x ^^^ crcInByte p y := by
  unfold crcInByte
  split
  · exact reverse_xor x y
  · rfl

theorem crcUpdate_xor (p : CrcProfile) (c d : Half) (x y : Byte) :
    crcUpdate p (c ^^^ d) (x ^^^ y) = crcUpdate p c x ^^^ crcUpdate p d y := by
  unfold crcUpdate
  rw [← crcShifts_xor, crcInByte_xor, BitVec.setWidth_xor, BitVec.shiftLeft_xor_distrib]
  ac_rfl

theorem crcFold_zipWith_xor (p : CrcProfile) (c d : Half) {a b : List Byte} (h : a.length = b.length) :
    crcFold p (c ^^^ d) (List.zipWith (fun x y => x ^^^ y) a b) = crcFold p c a ^^^ crcFold p d b := by
  induction a generalizing b c d with
  | nil =>
    obtain rfl := List.length_eq_zero_iff.1 h.symm
    rfl
  | cons x a ih =>
    cases b with
    | nil => cases h
    | cons y b => simp [crcUpdate_xor, ih _ _ (Nat.succ.inj h)]

theorem zipWith_xor_zeros (m : List Byte) : List.zipWith (fun x y => x ^^^ y) m (List.replicate m.length 0x00) = m := by
  induction m with
  | nil => rfl
  | cons b m ih => simpa [List.replicate_succ] using ih

/-- Settles O17: the message XORed with zeros is itself, so the left side is one fold, from `CRC_INIT` XORed three times. -/
theorem crcIsLinearOverMessages : Obligations.CrcIsLinearOverMessages := by
  intro a b h
  have hlen : (List.zipWith (fun x y => x ^^^ y) a b).length = a.length := by simp [h]
  simp only [crc16, crcFinal_ccittFalse]
  rw [← crcFold_zipWith_xor _ _ _ h, ← hlen, ← crcFold_zipWith_xor _ _ _ List.length_replicate.symm, zipWith_xor_zeros,
    BitVec.xor_self, BitVec.zero_xor]

/-! ## The register is injective when the polynomial has the term 1 -/

theorem highByte_setWidth_shiftLeft (b : Byte) : highByte (b.setWidth 16 <<< 8) = b := by
  ext i hi
  grind [highByte]

theorem reverse_injective {w : Nat} : Function.Injective (BitVec.reverse : BitVec w → BitVec w) :=
  Function.LeftInverse.injective fun _ => BitVec.reverse_reverse_eq

theorem crcInByte_injective (p : CrcProfile) : Function.Injective (crcInByte p) := by
  intro x y h
  unfold crcInByte at h
  split at h
  · exact reverse_injective h
  · exact h

theorem crcFinal_injective (p : CrcProfile) : Function.Injective (crcFinal p) := by
  intro c d h
  have hreflected := (BitVec.xor_left_inj _).1 h
  split at hreflected
  · exact reverse_injective hreflected
  · exact hreflected

section
variable {p : CrcProfile} (hp : p.poly.getLsbD 0 = true)
include hp

/-- The term 1 keeps the bit that falls out, as bit 0. -/
theorem crcShift_getLsbD_zero (c : Half) : (crcShift p c).getLsbD 0 = c.getLsbD 15 := by
  rw [crcShift_eq_xor, BitVec.getLsbD_xor]
  cases c.getLsbD 15
  · simp
  · simpa using hp

theorem crcShift_injective : Function.Injective (crcShift p) := by
  intro c d h
  have htop : c.getLsbD 15 = d.getLsbD 15 := by rw [← crcShift_getLsbD_zero hp, ← crcShift_getLsbD_zero hp, h]
  have hlow : c <<< 1 = d <<< 1 := by
    rw [crcShift_eq_xor, crcShift_eq_xor, htop] at h
    exact (BitVec.xor_left_inj _).1 h
  ext i hi
  by_cases h15 : i = 15
  · subst h15
    exact htop
  · have hnext : (c <<< 1).getLsbD (i + 1) = (d <<< 1).getLsbD (i + 1) := by rw [hlow]
    simpa [show i + 1 < 16 by omega] using hnext

theorem crcShifts_injective (n : Nat) : Function.Injective (crcShifts p n) := by
  induction n with
  | zero => exact Function.injective_id
  | succ n ih => exact ih.comp (crcShift_injective hp)

theorem crcUpdate_injective_register (b : Byte) : Function.Injective (crcUpdate p · b) :=
  fun _ _ h => (BitVec.xor_left_inj _).1 (crcShifts_injective hp 8 h)

theorem crcUpdate_injective_byte (c : Half) : Function.Injective (crcUpdate p c) := by
  intro x y h
  have hplaced : (crcInByte p x).setWidth 16 <<< 8 = (crcInByte p y).setWidth 16 <<< 8 :=
    (BitVec.xor_right_inj c).1 (crcShifts_injective hp 8 h)
  apply crcInByte_injective p
  rw [← highByte_setWidth_shiftLeft (crcInByte p x), hplaced, highByte_setWidth_shiftLeft]

theorem crcFold_injective (m : List Byte) : Function.Injective (crcFold p · m) := by
  induction m with
  | nil => exact Function.injective_id
  | cons b m ih => exact ih.comp (crcUpdate_injective_register hp b)

end

/-- Settles O18: the bytes make the registers differ, and neither the bytes after them nor `crc_final` makes them equal again. -/
theorem crcTellsMessagesApartInOneByte : Obligations.CrcTellsMessagesApartInOneByte := by
  intro p before after b b' hp hne h
  have hfold := crcFinal_injective p h
  rw [crcFold_append, crcFold_append] at hfold
  exact hne (crcUpdate_injective_byte hp _ (crcFold_injective hp after hfold))

/-! ## While no 1 falls out, the loop is a shift -/

theorem crcShifts_eq_shiftLeft (p : CrcProfile) {n : Nat} {c : Half} (h : c.toNat * 2 ^ n < 2 ^ 16) :
    crcShifts p n c = c <<< n := by
  induction n generalizing c with
  | zero => exact (BitVec.shiftLeft_zero c).symm
  | succ n ih =>
    have hdouble : c.toNat * 2 * 2 ^ n < 2 ^ 16 := by rwa [Nat.mul_assoc, ← Nat.pow_succ']
    have hlt : c.toNat * 2 < 2 ^ 16 := lt_of_le_of_lt (Nat.le_mul_of_pos_right _ (Nat.two_pow_pos n)) hdouble
    have hturn : crcShift p c = c <<< 1 := by
      have hmsb := BitVec.msb_eq_false_iff_two_mul_lt.2 (show 2 * c.toNat < 2 ^ 16 by omega)
      exact if_neg (Bool.eq_false_iff.1 (c.msb_eq_getLsbD_last.symm.trans hmsb))
    have hnat : (c <<< 1).toNat = c.toNat * 2 := by
      rw [BitVec.toNat_shiftLeft, Nat.shiftLeft_eq, Nat.pow_one, Nat.mod_eq_of_lt hlt]
    rw [crcShifts, hturn, ih (hnat ▸ hdouble), ← BitVec.shiftLeft_add, Nat.add_comm]

theorem setWidth_lowByte_shiftLeft (c : Half) : (lowByte c).setWidth 16 <<< 8 = c <<< 8 := by
  ext i hi
  grind [lowByte]

theorem xor_highByte (c : Half) : c ^^^ (highByte c).setWidth 16 <<< 8 = (lowByte c).setWidth 16 := by
  ext i hi
  grind [lowByte, highByte]

theorem crcInByte_of_not_refIn {p : CrcProfile} (h : p.refIn = false) (b : Byte) : crcInByte p b = b :=
  if_neg (Bool.eq_false_iff.1 h)

theorem crcUpdate_highByte {p : CrcProfile} (h : p.refIn = false) (c : Half) : crcUpdate p c (highByte c) = c <<< 8 := by
  have hlow : ((lowByte c).setWidth 16).toNat * 2 ^ 8 < 2 ^ 16 := by
    rw [BitVec.toNat_setWidth_of_le (by decide)]
    exact Nat.mul_lt_mul_of_pos_right (lowByte c).isLt (by decide)
  rw [crcUpdate, crcInByte_of_not_refIn h, xor_highByte, crcShifts_eq_shiftLeft p hlow, setWidth_lowByte_shiftLeft]

theorem crcUpdate_lowByte {p : CrcProfile} (h : p.refIn = false) (c : Half) : crcUpdate p (c <<< 8) (lowByte c) = 0 := by
  rw [crcUpdate, crcInByte_of_not_refIn h, setWidth_lowByte_shiftLeft, BitVec.xor_self, crcShifts_eq_shiftLeft p (by decide)]
  rfl

/-- Settles O16: the high byte leaves the low one shifted up, and the low byte cancels it. -/
theorem crcAppendedHighByteFirstGivesZero : Obligations.CrcAppendedHighByteFirstGivesZero := by
  intro m
  simp only [crc16, crcFinal_ccittFalse, crcFold_append, crcFold_cons, crcFold_nil]
  rw [crcUpdate_highByte rfl, crcUpdate_lowByte rfl]

end Sys2Proof
end

section
/-! The operations of the host generator (R55, R56) and the check values of the profiles (R54). -/
namespace Sys2Proof.Machine

theorem decodeCommand_of_op_three {w : Word} (h : commandOp w = 3) : decodeCommand w = .crcInit := by
  simp [decodeCommand, h]

theorem decodeCommand_of_op_four {w : Word} (h : commandOp w = 4) : decodeCommand w = .crcUpdate (commandData w) := by
  simp [decodeCommand, h]

theorem exec_crcInit (s : State) : exec .crcInit s = .next { s with crcAcc := s.cfg.crc.init } := rfl

theorem exec_crcUpdate (b : Byte) (s : State) :
    exec (.crcUpdate b) s = .next { s with crcAcc := crcUpdate s.cfg.crc s.crcAcc b } := rfl

theorem exec_rdCrcValue (s : State) : exec .rdCrcValue s = .next (s.hostReads s.crcValueWord) := rfl

/-- Settles O13: the OP decides, one field is set, and under the default profile CRC_VALUE shows that field as it is. -/
theorem crcInitStartsAComputation : Obligations.CrcInitStartsAComputation := by
  refine ⟨fun _ => decodeCommand_of_op_three, exec_crcInit, fun s h => ?_⟩
  rw [exec_rdCrcValue, State.crcValueWord, h, crcFinal_ccittFalse]
  rfl

/-- Settles O14: the OP decides and one field is set; the corner values by evaluation. -/
theorem crcUpdateFeedsOneByte : Obligations.CrcUpdateFeedsOneByte :=
  ⟨fun _ => decodeCommand_of_op_four, fun s b => exec_crcUpdate b s, by decide +kernel⟩

/-- Settles O15, by evaluation. -/
theorem crcCheckValuesOfTheProfiles : Obligations.CrcCheckValuesOfTheProfiles := by
  unfold Obligations.CrcCheckValuesOfTheProfiles
  decide +kernel

end Sys2Proof.Machine
end

section
/-! What each row of an armed receive does, with its condition met (R61 to R70), as a record update; and the events that count
down or end a receive (R72 to R75). -/
namespace Sys2Proof.Machine

/-! ## RECV and the start byte (R61, R63) -/

theorem decodeCommand_of_op_one {w : Word} (h : commandOp w = 1) : decodeCommand w = .recv := by
  simp [decodeCommand, h]

theorem exec_recv_of_busy {s : State} (hb : s.rxBusy = true) : exec .recv s = .next (s.rejectCommand .rxBusy) := if_pos hb

theorem exec_recv_of_idle {s : State} (hb : s.rxBusy = false) : exec .recv s = .next s.armReceive :=
  if_neg (Bool.eq_false_iff.1 hb)

/-- Settles O20: the OP decides, and `rx_busy` decides between the rejection and the armed receive. -/
theorem recvArmsOrIsRejected : Obligations.RecvArmsOrIsRejected :=
  ⟨fun _ => decodeCommand_of_op_one, ⟨_, exec_recv_of_idle rfl, rfl⟩, fun _ => ⟨exec_recv_of_busy, exec_recv_of_idle⟩⟩

theorem exec_rxStart_of_busy {s : State} (hb : s.rxBusy = true) : exec .rxStart s = .next s.startByteEffect := if_pos hb

/-- Settles O34: the start byte is tested before the state, and the armed engine then begins a frame. -/
theorem startByteResyncs : Obligations.StartByteResyncs := fun s hb =>
  ⟨decode_wireIn_start s.cfg.startByte s.rxState, exec_rxStart_of_busy hb⟩

/-! ## Data bytes (R64 to R70) -/

theorem onDataByte_of_applies {s : State} {st : RxState} {d : Byte} {f : State → State} (hb : s.rxBusy = true)
    (hst : s.rxState = st) (hd : d ≠ s.cfg.startByte) : onDataByte st d f s = .next (f s) :=
  if_pos ((dataByteApplies_eq_true st d s).2 ⟨hb, hst, hd⟩)

theorem State.lengthDeclared_of_overflow {s : State} (h : s.cfg.maxPayload < s.rxLen.toNat) :
    s.lengthDeclared = s.postResult .overflowError := if_pos h

/-- A legal length goes on to the payload, or past an empty one. -/
theorem State.lengthDeclared_of_legal {s : State} (h : s.rxLen.toNat ≤ s.cfg.maxPayload) :
    s.lengthDeclared = { s with
      rxState := if s.rxLen = 0 then .crcLo else .payload, rxTimer := timerValue s.cfg.tPay } := by
  rcases s.lengthDeclared_cases with ⟨hover, _⟩ | ⟨_, hzero, heq⟩ | ⟨_, hpos, heq⟩
  · exact absurd h (Nat.not_le.2 hover)
  · rw [heq, if_pos hzero]
    rfl
  · rw [heq, if_neg hpos]
    rfl

/-- The counted byte is the last one or not, and the timer of both states is T_PAY's. -/
theorem State.countPayloadByte_reload {s : State} (hst : s.rxState = .payload) (hcnt : s.rxCnt.toNat < 256) :
    s.countPayloadByte.reload = { s with
      rxCnt := s.rxCnt + 1, rxState := if s.rxCnt.toNat + 1 = s.rxLen.toNat then .crcLo else .payload
      rxTimer := timerValue s.cfg.tPay } := by
  rw [← show (s.rxCnt + 1).toNat = s.rxCnt.toNat + 1 by bv_omega]
  rcases s.countPayloadByte_cases with ⟨hlast, heq⟩ | ⟨hmore, heq⟩
  · rw [heq, if_pos hlast]
    rfl
  · rw [heq, if_neg hmore, hst]
    rfl

section
variable {s : State} {d : Byte} (hb : s.rxBusy = true) (hd : d ≠ s.cfg.startByte)
include hb hd

theorem exec_rxWait_of_armed (hst : s.rxState = .waitStart) :
    exec (.rxWait d) s = .next { s with rxTimer := timerValue s.cfg.tHdr } := by
  refine (onDataByte_of_applies hb hst hd : execRxWait d s = _).trans ?_
  rw [State.reload, hst]
  rfl

theorem exec_rxSeq_of_armed (hst : s.rxState = .seq) :
    exec (.rxSeq d) s = .next { s with
      rxSeq := d, rxCrcAcc := crcUpdate s.cfg.crc s.rxCrcAcc d, rxState := .lenLo, rxTimer := timerValue s.cfg.tHdr } :=
  (onDataByte_of_applies hb hst hd : execRxSeq d s = _)

theorem exec_rxLenLo_of_armed (hst : s.rxState = .lenLo) :
    exec (.rxLenLo d) s = .next { s with
      rxLen := setLowByte s.rxLen d, rxCrcAcc := crcUpdate s.cfg.crc s.rxCrcAcc d, rxState := .lenHi
      rxTimer := timerValue s.cfg.tHdr } :=
  (onDataByte_of_applies hb hst hd : execRxLenLo d s = _)

theorem exec_rxLenHi_of_armed (hst : s.rxState = .lenHi) :
    exec (.rxLenHi d) s = .next (State.lengthDeclared { s with
      rxLen := setHighByte s.rxLen d, rxCrcAcc := crcUpdate s.cfg.crc s.rxCrcAcc d }) :=
  (onDataByte_of_applies hb hst hd : execRxLenHi d s = _)

theorem exec_rxPayload_of_armed (hst : s.rxState = .payload) (hcnt : s.rxCnt.toNat < s.cfg.maxPayload) :
    exec (.rxPayload d) s = .next { s with
      rxBuf := bufferStore s.cfg.maxPayload s.rxBuf s.rxCnt.toNat d, rxCrcAcc := crcUpdate s.cfg.crc s.rxCrcAcc d
      rxCnt := s.rxCnt + 1, rxState := if s.rxCnt.toNat + 1 = s.rxLen.toNat then .crcLo else .payload
      rxTimer := timerValue s.cfg.tPay } := by
  have hcap := s.cfg.maxPayload.isLt
  have hcount := State.countPayloadByte_reload (s := (s.storeRxByte s.rxCnt.toNat d).feedRxCrc d) hst (by simp; omega)
  exact (onDataByte_of_applies hb hst hd : execRxPayload d s = _).trans (congrArg Host.Outcome.next hcount)

theorem exec_rxCrcLo_of_armed (hst : s.rxState = .crcLo) :
    exec (.rxCrcLo d) s = .next { s with
      rxCrcRecv := setLowByte s.rxCrcRecv d, rxState := .crcHi, rxTimer := timerValue s.cfg.tPay } :=
  (onDataByte_of_applies hb hst hd : execRxCrcLo d s = _)

theorem exec_rxCrcHi_of_armed (hst : s.rxState = .crcHi) :
    exec (.rxCrcHi d) s = .next (State.checkChecksum { s with
      rxCrcRecv := setHighByte s.rxCrcRecv d, rxCrcCalc := crcFinal s.cfg.crc s.rxCrcAcc }) :=
  (onDataByte_of_applies hb hst hd : execRxCrcHi d s = _)

end

theorem State.checkChecksum_of_eq {s : State} (h : s.rxCrcCalc = s.rxCrcRecv) :
    s.checkChecksum = State.postResult { s with health := .ok } .frame := if_pos h

theorem State.checkChecksum_of_ne {s : State} (h : s.rxCrcCalc ≠ s.rxCrcRecv) :
    s.checkChecksum = State.postResult { s with health := .fail } .checksumError := if_neg h

/-- Settles O35. -/
theorem noiseIsDiscarded : Obligations.NoiseIsDiscarded := fun _ _ hb hst hd => exec_rxWait_of_armed hb hd hst

/-- Settles O36. -/
theorem sequenceAndLowLengthBytes : Obligations.SequenceAndLowLengthBytes := fun _ _ hb hd =>
  ⟨exec_rxSeq_of_armed hb hd, exec_rxLenLo_of_armed hb hd⟩

/-- Settles O37: overflow is tested first, and a legal length is zero or not. -/
theorem highLengthByteDecides : Obligations.HighLengthByteDecides := by
  intro s d len hb hst hd hlen
  rw [exec_rxLenHi_of_armed hb hd hst, show setHighByte s.rxLen d = len from hlen.symm]
  refine ⟨fun hover => ?_, fun hzero => ?_, fun hpos hmax => ?_⟩
  · rw [State.lengthDeclared_of_overflow hover]
    rfl
  · have hmax : len.toNat ≤ s.cfg.maxPayload := hzero ▸ Nat.zero_le _
    rw [State.lengthDeclared_of_legal hmax, if_pos hzero]
    rfl
  · rw [State.lengthDeclared_of_legal hmax, if_neg hpos]
    rfl

/-- Settles O38: the row stores at `rx_cnt`, an index of the buffer, and a store is read back there and nowhere else. -/
theorem payloadByteIsStored : Obligations.PayloadByteIsStored := by
  intro s d hb hst hd hcnt
  refine ⟨_, exec_rxPayload_of_armed hb hd hst hcnt, fun k => ?_, fun _ => rfl, rfl⟩
  exact (s.rxByte_storeRxByte s.rxCnt.toNat k d).trans (by rw [if_pos hcnt])

/-- Settles O39. -/
theorem lowChecksumByteIsStored : Obligations.LowChecksumByteIsStored := fun _ _ hb hst hd => exec_rxCrcLo_of_armed hb hd hst

/-- Settles O40: the two verdicts of the checksum check. -/
theorem highChecksumByteGivesTheVerdict : Obligations.HighChecksumByteGivesTheVerdict := by
  intro s d got hb hst hd hgot
  rw [exec_rxCrcHi_of_armed hb hd hst, show setHighByte s.rxCrcRecv d = got from hgot.symm]
  refine ⟨fun heq => ?_, fun hne => ?_⟩
  · rw [State.checkChecksum_of_eq heq, heq]
    rfl
  · rw [State.checkChecksum_of_ne hne]
    rfl

/-! ## Events (R72 to R75, R80) -/

section
variable {s : State}

theorem exec_envTick_of_idle (hb : s.rxBusy = false) : exec .envTick s = .next s := if_neg (Bool.eq_false_iff.1 hb)

theorem exec_envTick_of_running (hb : s.rxBusy = true) (ht : 1 < s.rxTimer.toNat) :
    exec .envTick s = .next { s with rxTimer := s.rxTimer - 1 } :=
  (if_pos hb).trans (if_neg (Nat.not_le.2 ht))

theorem exec_envTick_of_last (hb : s.rxBusy = true) (ht : s.rxTimer.toNat ≤ 1) :
    exec .envTick s = .next (s.postResult .timeout) :=
  (if_pos hb).trans (if_pos ht)

theorem exec_envTimeout_of_armed (hb : s.rxBusy = true) : exec .envTimeout s = .next (s.postResult .timeout) := if_pos hb

theorem exec_envResetRx_of_idle (hb : s.rxBusy = false) : exec .envResetRx s = .next { s with rxQueue := [] } :=
  if_neg (Bool.eq_false_iff.1 hb)

theorem exec_envResetRx_of_armed (hb : s.rxBusy = true) :
    exec .envResetRx s = .next (State.postResult { s with rxQueue := [] } .channelError) := if_pos hb

theorem exec_envResetTx_of_idle (hb : s.txBusy = false) : exec .envResetTx s = .next s := if_neg (Bool.eq_false_iff.1 hb)

theorem exec_envResetTx_of_busy (hb : s.txBusy = true) :
    exec .envResetTx s = .next { s with txBusy := false, txErr := true, txIdx := 0 } := if_pos hb

end

/-- Settles O41. -/
theorem tickCountsDownOrTimesOut : Obligations.TickCountsDownOrTimesOut := fun _ =>
  ⟨exec_envTick_of_idle, exec_envTick_of_running, exec_envTick_of_last⟩

/-- Settles O42. -/
theorem abstractTimeoutPostsTimeout : Obligations.AbstractTimeoutPostsTimeout := fun _ => exec_envTimeout_of_armed

/-- Settles O43: the step is the RX side's row and then the TX side's on what it leaves. -/
theorem channelResetEndsBothSides : Obligations.ChannelResetEndsBothSides := by
  intro s
  refine ⟨exec_envResetRx_of_idle, exec_envResetRx_of_armed, exec_envResetTx_of_idle, exec_envResetTx_of_busy,
    fun rest hp hrx htx => ?_⟩
  have hrxSide := exec_envResetRx_of_armed (s := { s with pending := rest }) hrx
  exact (step_of_pending hp).trans ((channelReset_of_rxSide hrxSide).trans (exec_envResetTx_of_busy htx))

end Sys2Proof.Machine
end

section
/-! The inter-byte timer over a run of ticks (R72, R73). -/
namespace Sys2Proof.Machine

theorem core_run_succ {s t : State} (k : Nat) (h : step s = .next t) : core.run (k + 1) s = core.run k t :=
  run_succ core k s t h

theorem step_tick_of_running {s : State} {rest : List Stimulus} (hp : s.pending = .tick :: rest) (hb : s.rxBusy = true)
    (ht : 1 < s.rxTimer.toNat) : step s = .next { s with pending := rest, rxTimer := s.rxTimer - 1 } :=
  (step_of_pending hp).trans (exec_envTick_of_running hb ht)

theorem step_tick_of_last {s : State} {rest : List Stimulus} (hp : s.pending = .tick :: rest) (hb : s.rxBusy = true)
    (ht : s.rxTimer.toNat ≤ 1) : step s = .next (State.postResult { s with pending := rest } .timeout) :=
  (step_of_pending hp).trans (exec_envTick_of_last hb ht)

/-- Fewer ticks than the timer names only count down. -/
theorem run_ticks_of_running {s : State} {n : Nat} {later : List Stimulus} (hb : s.rxBusy = true) (hn : n < s.rxTimer.toNat)
    (hp : s.pending = List.replicate n .tick ++ later) :
    core.run n s = .next { s with pending := later, rxTimer := s.rxTimer - BitVec.ofNat 16 n } := by
  induction n generalizing s with
  | zero =>
    obtain rfl : s.pending = later := hp
    rw [BitVec.sub_zero]
    rfl
  | succ n ih =>
    have hsub : (s.rxTimer - 1).toNat = s.rxTimer.toNat - 1 := by bv_omega
    have hfirst := step_tick_of_running hp hb (by omega)
    have hcount : s.rxTimer - BitVec.ofNat 16 (n + 1) = s.rxTimer - 1 - BitVec.ofNat 16 n := by
      rw [BitVec.ofNat_add, add_comm]
      exact (sub_sub _ _ _).symm
    rw [hcount]
    exact (core_run_succ n hfirst).trans (ih hb (by simp only [hsub]; omega) rfl)

/-- Settles O12: all ticks but the last count down to 1, and the last posts TIMEOUT. -/
theorem timeoutComesOnTheLastTick : Obligations.TimeoutComesOnTheLastTick := by
  intro s n later hb hpos hp
  refine ⟨fun hn => run_ticks_of_running hb hn hp, fun hn => ?_⟩
  obtain ⟨m, rfl⟩ : ∃ m, n = m + 1 := Nat.exists_eq_add_one.2 (hn ▸ hpos)
  rw [List.replicate_succ', List.append_assoc] at hp
  have hleft : (s.rxTimer - BitVec.ofNat 16 m).toNat ≤ 1 := by bv_omega
  have hcounted := run_ticks_of_running hb (by omega) hp
  have hlast := step_tick_of_last
    (s := { s with pending := .tick :: later, rxTimer := s.rxTimer - BitVec.ofNat 16 m }) rfl hb hleft
  exact (run_add core m 1 s _ hcounted).trans ((run_one core _).trans hlast)

end Sys2Proof.Machine
end

section
/-! Whole frames on the receiving side (R45, R76). The engine consumes a list of bytes, one RX step each; consumptions compose;
and each part of a frame (start byte, header, payload, checksum) is one consumption whose end state is written out. -/
namespace Sys2Proof.Machine

/-- `s` with these bytes queued and these stimuli next. -/
def State.withQueues (s : State) (q : List Byte) (p : List Stimulus) : State := { s with rxQueue := q, pending := p }

/-- The verdict does not concern the queue and the stimuli. -/
theorem State.checkChecksum_withQueues (s : State) (q : List Byte) (p : List Stimulus) :
    (s.withQueues q p).checkChecksum = s.checkChecksum.withQueues q p := by
  rcases s.checkChecksum_cases with ⟨h, heq⟩ | ⟨h, heq⟩ <;> rw [heq]
  · exact State.checkChecksum_of_eq h
  · exact State.checkChecksum_of_ne h

/-! ## Consuming a list of bytes -/

/-- As many RX steps as there are `bytes`, with no other step between, take them from the head of the queue and lead from `s`
to `t`, whatever stands behind them in the queue and in the list of stimuli (R62). -/
def Consumes (s : State) (bytes : List Byte) (t : State) : Prop :=
  ∀ rest later,
    core.run bytes.length (s.withQueues (bytes ++ rest) (List.replicate bytes.length .rxStep ++ later)) =
      .next (t.withQueues rest later)

theorem Consumes.nil (s : State) : Consumes s [] s := fun _ _ => rfl

theorem Consumes.append {s t u : State} {as bs : List Byte} (has : Consumes s as t) (hbs : Consumes t bs u) :
    Consumes s (as ++ bs) u := fun rest later => by
  rw [List.length_append, List.replicate_add, List.append_assoc, List.append_assoc]
  exact (run_add core as.length bs.length _ _ (has _ _)).trans (hbs rest later)

theorem Consumes.cons {s t u : State} {b : Byte} {bs : List Byte} (hb : Consumes s [b] t) (hbs : Consumes t bs u) :
    Consumes s (b :: bs) u := hb.append hbs

/-- The run of a machine that has just these bytes and RX steps next. -/
theorem Consumes.run_eq {s t : State} {bytes rest : List Byte} {later : List Stimulus} (h : Consumes s bytes t)
    (hq : s.rxQueue = bytes ++ rest) (hp : s.pending = List.replicate bytes.length .rxStep ++ later) :
    core.run bytes.length s = .next (t.withQueues rest later) := by
  have hrun := h rest later
  rw [← hq, ← hp] at hrun
  exact hrun

theorem step_rxStep_of_enabled {s : State} {b : Byte} {q : List Byte} {rest : List Stimulus}
    (hp : s.pending = .rxStep :: rest) (hb : s.rxBusy = true) (hq : s.rxQueue = b :: q) :
    step s = exec (decodeWire s.cfg.startByte s.rxState b) { s with pending := rest, rxQueue := q } :=
  (step_of_pending hp).trans (rxEngineStep_of_enabled hb hq)

/-- One byte: the row it decodes to, which the rest of the queue and the stimuli do not concern. -/
theorem Consumes.single {s t : State} {b : Byte} (hb : s.rxBusy = true)
    (hrow : ∀ q p, exec (decodeWire s.cfg.startByte s.rxState b) (s.withQueues q p) =
      .next (t.withQueues q p)) : Consumes s [b] t := fun rest later => by
  have hstep := step_rxStep_of_enabled (s := s.withQueues (b :: rest) (.rxStep :: later)) rfl hb rfl
  exact (run_one core _).trans (hstep.trans (hrow rest later))

theorem consumes_startByte {s : State} (hb : s.rxBusy = true) : Consumes s [s.cfg.startByte] s.startByteEffect := by
  refine .single hb fun q p => ?_
  rw [show decodeWire _ _ _ = _ from decode_wireIn_start s.cfg.startByte s.rxState]
  exact exec_rxStart_of_busy hb

/-- A data byte: the row of the FSM state (R49). -/
theorem Consumes.dataByte {s t : State} {d : Byte} {st : RxState} {i : Instr} (hb : s.rxBusy = true) (hst : s.rxState = st)
    (hi : decodeWire s.cfg.startByte st d = i)
    (hrow : ∀ q p, exec i (s.withQueues q p) = .next (t.withQueues q p)) :
    Consumes s [d] t := by
  subst hst hi
  exact .single hb hrow

/-- Bytes before a frame only restart the timer (R64). -/
theorem consumes_noise {s : State} {noise : List Byte} (hb : s.rxBusy = true) (hst : s.rxState = .waitStart)
    (hnoise : ∀ b ∈ noise, b ≠ s.cfg.startByte) : ∃ timer, Consumes s noise { s with rxTimer := timer } := by
  induction noise generalizing s with
  | nil => exact ⟨s.rxTimer, .nil s⟩
  | cons d noise ih =>
    obtain ⟨hd, htail⟩ := List.forall_mem_cons.1 hnoise
    have hfirst : Consumes s [d] { s with rxTimer := timerValue s.cfg.tHdr } :=
      .dataByte hb hst (if_neg hd) fun q p => exec_rxWait_of_armed hb hd hst
    obtain ⟨timer, hrest⟩ := ih (s := { s with rxTimer := timerValue s.cfg.tHdr }) hb hst htail
    exact ⟨timer, hfirst.cons hrest⟩

/-! ## The header -/

theorem setHighByte_setLowByte (h : Half) (low high : Byte) : setHighByte (setLowByte h low) high = high ++ low := by
  ext i hi
  grind [setHighByte, setLowByte, lowByte, highByte]

theorem highByte_append_lowByte (h : Half) : highByte h ++ lowByte h = h := by
  ext i hi
  grind [lowByte, highByte]

section
variable {s : State} {d : Byte} (hb : s.rxBusy = true) (hd : d ≠ s.cfg.startByte)
include hb hd

theorem consumes_seqByte (hst : s.rxState = .seq) : Consumes s [d] { s with
    rxSeq := d, rxCrcAcc := crcUpdate s.cfg.crc s.rxCrcAcc d, rxState := .lenLo, rxTimer := timerValue s.cfg.tHdr } :=
  .dataByte (i := .rxSeq d) hb hst (if_neg hd) fun _ _ => exec_rxSeq_of_armed hb hd hst

theorem consumes_lenLoByte (hst : s.rxState = .lenLo) : Consumes s [d] { s with
    rxLen := setLowByte s.rxLen d, rxCrcAcc := crcUpdate s.cfg.crc s.rxCrcAcc d, rxState := .lenHi
    rxTimer := timerValue s.cfg.tHdr } :=
  .dataByte (i := .rxLenLo d) hb hst (if_neg hd) fun _ _ => exec_rxLenLo_of_armed hb hd hst

theorem consumes_lenHiByte (hst : s.rxState = .lenHi) {len : Half} (hlen : setHighByte s.rxLen d = len)
    (hmax : len.toNat ≤ s.cfg.maxPayload) : Consumes s [d] { s with
    rxLen := len, rxCrcAcc := crcUpdate s.cfg.crc s.rxCrcAcc d, rxState := if len = 0 then .crcLo else .payload
    rxTimer := timerValue s.cfg.tPay } := by
  refine .dataByte (i := .rxLenHi d) hb hst (if_neg hd) fun q p =>
    (exec_rxLenHi_of_armed (s := s.withQueues q p) hb hd hst).trans ?_
  subst hlen
  exact congrArg Host.Outcome.next (State.lengthDeclared_of_legal hmax)

theorem consumes_payloadByte (hst : s.rxState = .payload) :
    Consumes s [d] ((s.storeRxByte s.rxCnt.toNat d).feedRxCrc d).countPayloadByte.reload :=
  .dataByte (i := .rxPayload d) hb hst (if_neg hd) fun q p =>
    (onDataByte_of_applies hb hst hd : execRxPayload d (s.withQueues q p) = _)

theorem consumes_crcLoByte (hst : s.rxState = .crcLo) : Consumes s [d] { s with
    rxCrcRecv := setLowByte s.rxCrcRecv d, rxState := .crcHi, rxTimer := timerValue s.cfg.tPay } :=
  .dataByte (i := .rxCrcLo d) hb hst (if_neg hd) fun _ _ => exec_rxCrcLo_of_armed hb hd hst

theorem consumes_crcHiByte (hst : s.rxState = .crcHi) : Consumes s [d] (State.checkChecksum { s with
    rxCrcRecv := setHighByte s.rxCrcRecv d, rxCrcCalc := crcFinal s.cfg.crc s.rxCrcAcc }) := by
  refine .dataByte (i := .rxCrcHi d) hb hst (if_neg hd) fun q p =>
    (exec_rxCrcHi_of_armed (s := s.withQueues q p) hb hd hst).trans ?_
  exact congrArg Host.Outcome.next (State.checkChecksum_withQueues
    { s with rxCrcRecv := setHighByte s.rxCrcRecv d, rxCrcCalc := crcFinal s.cfg.crc s.rxCrcAcc } q p)

end

/-- The three header bytes of a legal length leave the sequence and the length, and the FSM in the payload, or past an empty one
(R65 to R67). -/
theorem consumes_header {s : State} {seq : Byte} {len : Half} (hb : s.rxBusy = true) (hst : s.rxState = .seq)
    (hlen : len.toNat ≤ s.cfg.maxPayload)
    (hne : ∀ b ∈ [seq, lowByte len, highByte len], b ≠ s.cfg.startByte) :
    ∃ t, Consumes s [seq, lowByte len, highByte len] t ∧ t = { s with
      rxSeq := seq, rxLen := len, rxCrcAcc := crcFold s.cfg.crc s.rxCrcAcc [seq, lowByte len, highByte len]
      rxState := if len = 0 then .crcLo else .payload, rxTimer := timerValue s.cfg.tPay } := by
  simp only [List.forall_mem_cons] at hne
  obtain ⟨hseq, hlow, hhigh, -⟩ := hne
  have hassembled : setHighByte (setLowByte s.rxLen (lowByte len)) (highByte len) = len := by
    rw [setHighByte_setLowByte, highByte_append_lowByte]
  have hfirst := consumes_seqByte hb hseq hst
  exact ⟨_, hfirst.cons (.cons (consumes_lenLoByte (by exact hb) (by exact hlow) rfl)
    (consumes_lenHiByte (by exact hb) (by exact hhigh) rfl hassembled hlen)), rfl⟩

/-! ## The payload -/

/-- The payload bytes still to come are stored in order from `rx_cnt` on, and after the last one the checksum is next (R68). -/
theorem consumes_payload {s : State} {bytes : List Byte} (hb : s.rxBusy = true)
    (hst : s.rxState = if s.rxCnt.toNat = s.rxLen.toNat then .crcLo else .payload)
    (hlen : s.rxCnt.toNat + bytes.length = s.rxLen.toNat) (hmax : s.rxLen.toNat ≤ s.cfg.maxPayload)
    (hne : ∀ b ∈ bytes, b ≠ s.cfg.startByte) :
    ∃ t, Consumes s bytes t ∧
      t = { s with
        rxBuf := t.rxBuf, rxCrcAcc := crcFold s.cfg.crc s.rxCrcAcc bytes, rxCnt := s.rxLen.setWidth 9
        rxState := .crcLo, rxTimer := t.rxTimer } ∧
      (∀ k < s.rxCnt.toNat, t.rxByte k = s.rxByte k) ∧ ∀ k b, bytes[k]? = some b → t.rxByte (s.rxCnt.toNat + k) = b := by
  induction bytes generalizing s with
  | nil =>
    have hall : s.rxCnt.toNat = s.rxLen.toNat := hlen
    rw [if_pos hall] at hst
    have hcap := s.cfg.maxPayload.isLt
    have hcnt : s.rxLen.setWidth 9 = s.rxCnt := by bv_omega
    refine ⟨s, .nil s, ?_, fun _ _ => rfl, nofun⟩
    rw [hcnt, ← hst]
    rfl
  | cons d bytes ih =>
    obtain ⟨hd, htail⟩ := List.forall_mem_cons.1 hne
    rw [List.length_cons] at hlen
    rw [if_neg (by omega)] at hst
    have hcnt : s.rxCnt.toNat < s.cfg.maxPayload := by omega
    have hnext : (s.rxCnt + 1).toNat = s.rxCnt.toNat + 1 := by
      have hcap := s.cfg.maxPayload.isLt
      bv_omega
    have hfewer : (s.rxCnt + 1).toNat + bytes.length = s.rxLen.toNat := by omega
    obtain ⟨t, hrest, heq, hbelow, hstored⟩ :=
      ih (s := ((s.storeRxByte s.rxCnt.toNat d).feedRxCrc d).countPayloadByte.reload) hb (by simp [hst]) hfewer hmax htail
    have hupTo : ∀ k ≤ s.rxCnt.toNat, t.rxByte k = if k = s.rxCnt.toNat then d else s.rxByte k := fun k hk => by
      rw [hbelow k (Nat.lt_of_le_of_lt hk (Nat.lt_of_lt_of_eq (Nat.lt_succ_self _) hnext.symm))]
      exact (s.rxByte_storeRxByte s.rxCnt.toNat k d).trans (by rw [if_pos hcnt])
    refine ⟨t, (consumes_payloadByte hb hd hst).cons hrest, heq,
      fun k hk => (hupTo k hk.le).trans (if_neg hk.ne), fun k b hkb => ?_⟩
    cases k with
    | zero => exact (hupTo _ le_rfl).trans ((if_pos rfl).trans (Option.some.inj hkb))
    | succ k =>
      rw [show s.rxCnt.toNat + (k + 1) = (s.rxCnt + 1).toNat + k by omega]
      exact hstored k b hkb

/-! ## The checksum and the whole frame -/

/-- The two checksum bytes give the verdict over both (R69, R70). -/
theorem consumes_checksum {s : State} {low high : Byte} (hb : s.rxBusy = true) (hst : s.rxState = .crcLo)
    (hlow : low ≠ s.cfg.startByte) (hhigh : high ≠ s.cfg.startByte) :
    Consumes s [low, high] (State.checkChecksum { s with
      rxCrcRecv := high ++ low, rxCrcCalc := crcFinal s.cfg.crc s.rxCrcAcc, rxState := .crcHi
      rxTimer := timerValue s.cfg.tPay }) := by
  rw [← setHighByte_setLowByte s.rxCrcRecv]
  exact (consumes_crcLoByte hb hlow hst).cons (consumes_crcHiByte (by exact hb) (by exact hhigh) rfl)

/-- An armed receive, in any state, that consumes a start byte, a covered part of legal length and two checksum bytes, without a
START_BYTE after the first, comes to the checksum check with the covered part received and the two checksums to compare. -/
theorem consumes_frame {s : State} {seq low high : Byte} {payload : List Byte} (hb : s.rxBusy = true)
    (hmax : payload.length ≤ s.cfg.maxPayload)
    (hne : ∀ b ∈ coveredBytes seq payload ++ [low, high], b ≠ s.cfg.startByte) :
    ∃ u : State, Consumes s ([s.cfg.startByte] ++ coveredBytes seq payload ++ [low, high]) u.checkChecksum ∧
      u = { s with
        rxSeq := seq, rxLen := BitVec.ofNat 16 payload.length, rxCnt := (BitVec.ofNat 16 payload.length).setWidth 9
        rxBuf := u.rxBuf
        rxCrcAcc := crcFold s.cfg.crc s.cfg.crc.init (coveredBytes seq payload), rxCrcRecv := high ++ low
        rxCrcCalc := crc16 s.cfg.crc (coveredBytes seq payload), rxState := .crcHi, rxTimer := u.rxTimer } ∧
      ∀ k b, payload[k]? = some b → u.rxByte k = b := by
  obtain ⟨hcovered, hchecksum⟩ := List.forall_mem_append.1 hne
  obtain ⟨hheader, hpayload⟩ := List.forall_mem_append.1 hcovered
  simp only [List.forall_mem_cons] at hchecksum
  obtain ⟨hlow, hhigh, -⟩ := hchecksum
  have hcap := s.cfg.maxPayload.isLt
  have hlen : (BitVec.ofNat 16 payload.length).toNat = payload.length := by
    rw [BitVec.toNat_ofNat]
    omega
  obtain ⟨m, hconsHeader, hm⟩ := consumes_header (s := s.startByteEffect) hb rfl (by rw [hlen]; exact hmax) hheader
  have hmState : m.rxState = if m.rxCnt.toNat = m.rxLen.toNat then .crcLo else .payload := by
    rw [hm]
    exact if_congr (BitVec.toNat_eq.trans eq_comm) rfl rfl
  have hmLen : m.rxCnt.toNat + payload.length = m.rxLen.toNat := by
    rw [hm]
    exact (Nat.zero_add _).trans hlen.symm
  obtain ⟨t, hconsPayload, ht, -, hstored⟩ := consumes_payload (by rw [hm]; exact hb) hmState hmLen
    (by rw [hm]; exact hlen.le.trans hmax) (by rw [hm]; exact hpayload)
  have hconsChecksum : Consumes t [low, high] _ := consumes_checksum (by rw [ht, hm]; exact hb) (by rw [ht])
    (by rw [ht, hm]; exact hlow) (by rw [ht, hm]; exact hhigh)
  refine ⟨_, ((consumes_startByte hb).append (hconsHeader.append hconsPayload)).append hconsChecksum, ?_,
    fun k b hkb => ?_⟩
  · rw [ht, hm]
    rfl
  · have hbyte := hstored k b hkb
    rw [show m.rxCnt.toNat = 0 by rw [hm]; rfl, Nat.zero_add] at hbyte
    exact hbyte

end Sys2Proof.Machine
end

section
/-! What becomes of a received frame: a correct one is accepted (R76), one with a wrong byte is not (R77). -/
namespace Sys2Proof.Machine

theorem length_wireFrame (c : Config) (seq : Byte) (payload : List Byte) :
    (wireFrame c seq payload).length = 6 + payload.length := by
  simp [wireFrame, coveredBytes]
  omega

/-- An armed receive, in any state, accepts a correct frame with no START_BYTE after its first byte (R70, R76). -/
theorem consumes_wireFrame {s : State} {seq : Byte} {payload : List Byte} (hb : s.rxBusy = true)
    (hmax : payload.length ≤ s.cfg.maxPayload) (hne : ∀ b ∈ (wireFrame s.cfg seq payload).tail, b ≠ s.cfg.startByte) :
    ∃ t : State, Consumes s (wireFrame s.cfg seq payload) t ∧
      t = { s with
        rxSeq := seq, rxLen := BitVec.ofNat 16 payload.length, rxCnt := (BitVec.ofNat 16 payload.length).setWidth 9
        rxBuf := t.rxBuf, rxCrcAcc := crcFold s.cfg.crc s.cfg.crc.init (coveredBytes seq payload)
        rxCrcRecv := crc16 s.cfg.crc (coveredBytes seq payload), rxCrcCalc := crc16 s.cfg.crc (coveredBytes seq payload)
        health := .ok, rxResult := .frame, rxDone := true, rxBusy := false, rxState := .waitStart, rxTimer := 0 } ∧
      ∀ k b, payload[k]? = some b → t.rxByte k = b := by
  obtain ⟨u, hcons, hu, hstored⟩ := consumes_frame hb hmax hne
  rw [highByte_append_lowByte] at hu
  rw [State.checkChecksum_of_eq (by rw [hu])] at hcons
  exact ⟨_, hcons, by rw [hu]; rfl, hstored⟩

/-- Settles O8: the noise, then the frame, as one consumption. -/
theorem frameIsReceivedAsSent : Obligations.FrameIsReceivedAsSent := by
  intro s noise payload rest seq later hb hst hmax hnoise hne hq hp
  obtain ⟨timer, hconsNoise⟩ := consumes_noise hb hst hnoise
  obtain ⟨t, hconsFrame, ht, hstored⟩ := consumes_wireFrame (s := { s with rxTimer := timer }) hb hmax hne
  have hlength : (noise ++ wireFrame s.cfg seq payload).length = noise.length + (6 + payload.length) := by
    rw [List.length_append, length_wireFrame]
  rw [← hlength] at hp ⊢
  have hcap := s.cfg.maxPayload.isLt
  have hcnt : ((BitVec.ofNat 16 payload.length).setWidth 9).toNat = payload.length := by
    rw [BitVec.toNat_setWidth, BitVec.toNat_ofNat]
    omega
  refine ⟨_, (hconsNoise.append hconsFrame).run_eq hq hp, ?_⟩
  rw [ht] at hstored ⊢
  exact ⟨rfl, rfl, rfl, rfl, rfl, rfl, rfl, rfl, hcnt, hstored, rfl, rfl⟩

/-! ## One wrong byte -/

theorem append_ne_of_byte_ne {h : Half} {low high : Byte} (hne : low ≠ lowByte h ∨ high ≠ highByte h) :
    high ++ low ≠ h := by
  rintro rfl
  rcases hne with hlow | hhigh
  · exact hlow (by ext i hi; grind [lowByte])
  · exact hhigh (by ext i hi; grind [highByte])

/-- A frame from its payload on. -/
theorem wireFrame_eq_cons (c : Config) (seq : Byte) (payload : List Byte) : wireFrame c seq payload =
    c.startByte :: seq :: lowByte (BitVec.ofNat 16 payload.length) :: highByte (BitVec.ofNat 16 payload.length) ::
      (payload ++ [lowByte (crc16 c.crc (coveredBytes seq payload)), highByte (crc16 c.crc (coveredBytes seq payload))]) := rfl

theorem coveredBytes_set (seq wrong : Byte) (payload : List Byte) (j : Nat) : coveredBytes seq (payload.set j wrong) =
    [seq, lowByte (BitVec.ofNat 16 payload.length), highByte (BitVec.ofNat 16 payload.length)] ++ payload.set j wrong := by
  rw [coveredBytes, List.length_set]

/-- The checksum tells a payload from one with another byte in it. -/
theorem crc16_coveredBytes_set_ne {p : CrcProfile} (hpoly : p.poly.getLsbD 0 = true) {payload : List Byte} {j : Nat}
    (hj : j < payload.length) {wrong : Byte} (hne : payload[j] ≠ wrong) (seq : Byte) :
    crc16 p (coveredBytes seq payload) ≠ crc16 p (coveredBytes seq (payload.set j wrong)) := by
  have hapart (header : List Byte) : crc16 p (header ++ payload) ≠ crc16 p (header ++ payload.set j wrong) := by
    have hsplit := crcTellsMessagesApartInOneByte p (header ++ payload.take j) (payload.drop (j + 1)) _ _ hpoly hne
    rw [List.append_assoc, List.append_assoc, List.cons_getElem_drop_succ, List.take_append_drop] at hsplit
    rwa [List.set_eq_take_append_cons_drop, if_pos hj]
  rw [coveredBytes_set]
  exact hapart _

/-- A frame with a wrong sequence, payload or checksum byte is a covered part of the same length followed by a checksum that is
not its own, when the polynomial has the term 1 (R77 (a)). -/
theorem wireFrame_set_wrong {c : Config} {seq wrong : Byte} {payload : List Byte} {k : Nat}
    (hpoly : c.crc.poly.getLsbD 0 = true) (hk : k = 1 ∨ (4 ≤ k ∧ k ≤ 5 + payload.length)) (hwrong : (wireFrame c seq payload)[k]? ≠ some wrong) :
    ∃ (seq' : Byte) (payload' : List Byte) (low high : Byte),
      (wireFrame c seq payload).set k wrong = [c.startByte] ++ coveredBytes seq' payload' ++ [low, high] ∧
      payload'.length = payload.length ∧ high ++ low ≠ crc16 c.crc (coveredBytes seq' payload') := by
  rw [wireFrame_eq_cons] at hwrong ⊢
  rcases hk with rfl | ⟨hlo, hhi⟩
  · have hne : seq ≠ wrong := fun h => hwrong (congrArg some h)
    refine ⟨wrong, payload, _, _, rfl, rfl, ?_⟩
    rw [highByte_append_lowByte]
    exact crcTellsMessagesApartInOneByte c.crc [] _ seq wrong hpoly hne
  · obtain ⟨j, rfl⟩ := Nat.exists_eq_add_of_le' hlo
    simp only [List.getElem?_cons_succ, List.set_cons_succ] at hwrong ⊢
    rcases Nat.lt_or_ge j payload.length with hj | hj
    · rw [List.getElem?_append_left hj, List.getElem?_eq_getElem hj] at hwrong
      refine ⟨seq, payload.set j wrong, lowByte (crc16 c.crc (coveredBytes seq payload)),
        highByte (crc16 c.crc (coveredBytes seq payload)), ?_, List.length_set, ?_⟩
      · rw [List.set_append_left _ _ hj, coveredBytes_set]
        rfl
      · rw [highByte_append_lowByte]
        exact crc16_coveredBytes_set_ne hpoly hj (fun h => hwrong (congrArg some h)) seq
    · obtain ⟨i, rfl⟩ := Nat.exists_eq_add_of_le hj
      rw [List.getElem?_append_right hj, Nat.add_sub_cancel_left] at hwrong
      rw [List.set_append_right _ _ hj, Nat.add_sub_cancel_left]
      have hi : i = 0 ∨ i = 1 := by omega
      rcases hi with rfl | rfl
      · exact ⟨seq, payload, wrong, _, rfl, rfl, append_ne_of_byte_ne (.inl fun h => hwrong (congrArg some h.symm))⟩
      · exact ⟨seq, payload, _, wrong, rfl, rfl, append_ne_of_byte_ne (.inr fun h => hwrong (congrArg some h.symm))⟩

/-- Settles O11: the frame has another covered part or another checksum, and the check compares the two. -/
theorem oneWrongByteIsAChecksumError : Obligations.OneWrongByteIsAChecksumError := by
  intro s payload rest seq wrong k later hb hst hmax hpoly hk hwrong hne hq hp
  obtain ⟨seq', payload', low, high, hbytes, hlength, hverdict⟩ := wireFrame_set_wrong hpoly hk hwrong
  have hlen : ((wireFrame s.cfg seq payload).set k wrong).length = 6 + payload.length := by
    rw [List.length_set, length_wireFrame]
  rw [hbytes] at hne hq hlen
  rw [← hlen] at hp ⊢
  obtain ⟨u, hcons, hu, -⟩ := consumes_frame hb (hlength.trans_le hmax) hne
  rw [State.checkChecksum_of_ne (by rw [hu]; exact hverdict.symm)] at hcons
  refine ⟨_, hcons.run_eq hq hp, rfl, rfl, rfl, rfl, ?_, rfl⟩
  rw [hu]
  exact hverdict

end Sys2Proof.Machine
end

section
/-! A whole frame on the sending side (R45, R46, R78, R79), and its way back (90_conflicts.md C2). The state after `n` emitted bytes is
written out as `State.sending`; each emission takes it from one `n` to the next, up to the last byte. -/
namespace Sys2Proof.Machine

/-! ## The byte at `tx_idx` -/

/-- The wire byte is the one R45's table has at `tx_idx`. -/
theorem State.getElem?_txIdx_eq_txWireByte {s : State} (hidx : s.txIdx.toNat ≤ 5 + s.txLen.toNat) :
    ([s.cfg.startByte, s.txSeq, lowByte s.txLen, highByte s.txLen] ++ (List.range s.txLen.toNat).map s.txByte
      ++ [lowByte (crcFinal s.cfg.crc s.txCrcAcc), highByte (crcFinal s.cfg.crc s.txCrcAcc)])[s.txIdx.toNat]?
      = some s.txWireByte := by
  unfold State.txWireByte
  generalize s.txIdx.toNat = i at hidx
  match i with
  | 0 | 1 | 2 | 3 => rfl
  | i + 4 =>
    rw [if_neg (by omega), if_neg (by omega), if_neg (by omega), if_neg (by omega)]
    rcases Nat.lt_trichotomy i s.txLen.toNat with hlt | rfl | hgt
    · rw [if_pos (by omega)]
      simp [List.getElem?_append_left, hlt]
    · rw [if_neg (by omega), if_pos (by omega)]
      simp
    · obtain rfl : i = s.txLen.toNat + 1 := by omega
      rw [if_neg (by omega), if_neg (by omega)]
      simp

/-! ## The frame being sent -/

/-- The payload that SEND takes (R78). -/
def State.txPayload (s : State) : List Byte := (List.range s.txLen.toNat).map s.txByte

/-- The frame that SEND puts on the wire (R45). -/
def State.txFrame (s : State) : List Byte := wireFrame s.cfg s.txSeq s.txPayload

/-- `s` with SEND accepted and the first `n` bytes of its frame emitted: the running CRC has taken what R46 covers of them. -/
def State.sending (s : State) (n : Nat) : State :=
  { s with
    txBusy := true, txDone := false, txIdx := BitVec.ofNat 16 n, txOut := s.txOut ++ s.txFrame.take n
    txCrcAcc := crcFold s.cfg.crc s.cfg.crc.init ((coveredBytes s.txSeq s.txPayload).take (n - 1)) }

/-- `s` with its frame sent. -/
def State.sent (s : State) : State :=
  { s with
    txBusy := false, txDone := true, txIdx := 0, txOut := s.txOut ++ s.txFrame
    txCrcAcc := crcFold s.cfg.crc s.cfg.crc.init (coveredBytes s.txSeq s.txPayload) }

theorem State.length_txPayload (s : State) : s.txPayload.length = s.txLen.toNat := by
  simp [State.txPayload]

theorem State.ofNat_length_txPayload (s : State) : BitVec.ofNat 16 s.txPayload.length = s.txLen := by
  rw [s.length_txPayload, BitVec.ofNat_toNat, BitVec.setWidth_eq]

/-- The bytes the checksum covers, with the length as the register has it (R46). -/
theorem State.coveredBytes_txPayload (s : State) :
    coveredBytes s.txSeq s.txPayload = [s.txSeq, lowByte s.txLen, highByte s.txLen] ++ s.txPayload := by
  rw [coveredBytes, s.ofNat_length_txPayload]

theorem State.length_coveredBytes_txPayload (s : State) : (coveredBytes s.txSeq s.txPayload).length = 3 + s.txLen.toNat := by
  rw [s.coveredBytes_txPayload, List.length_append, s.length_txPayload]
  rfl

theorem State.length_txFrame (s : State) : s.txFrame.length = 6 + s.txLen.toNat := by
  rw [State.txFrame, length_wireFrame, s.length_txPayload]

theorem State.startSend_eq_sending (s : State) : s.startSend = s.sending 0 := by
  simp [State.startSend, State.sending]

section
variable {s : State} {n : Nat} (hmax : s.txLen.toNat ≤ s.cfg.maxPayload)
include hmax

theorem State.sending_txIdx_toNat (hn : n ≤ 5 + s.txLen.toNat) : (s.sending n).txIdx.toNat = n := by
  have hcap := s.cfg.maxPayload.isLt
  rw [show (s.sending n).txIdx = BitVec.ofNat 16 n from rfl, BitVec.toNat_ofNat]
  omega

/-- The next byte emitted is the frame's next byte: its checksum bytes come when the running CRC has taken all it covers. -/
theorem State.txFrame_getElem?_eq_txWireByte (hn : n ≤ 5 + s.txLen.toNat) :
    s.txFrame[n]? = some (s.sending n).txWireByte := by
  have hidx := State.sending_txIdx_toNat hmax hn
  have htable := State.getElem?_txIdx_eq_txWireByte (s := s.sending n) (by rw [hidx]; exact hn)
  rw [hidx] at htable
  rw [← htable, State.txFrame, wireFrame, s.coveredBytes_txPayload]
  by_cases hcovered : n < 4 + s.txLen.toNat
  · have hlen : n < ([s.cfg.startByte, s.txSeq, lowByte s.txLen, highByte s.txLen] ++ s.txPayload).length := by
      rw [List.length_append, s.length_txPayload]
      exact hcovered
    exact (List.getElem?_append_left hlen).trans (List.getElem?_append_left hlen).symm
  · have hall : (coveredBytes s.txSeq s.txPayload).take (n - 1) = coveredBytes s.txSeq s.txPayload :=
      List.take_of_length_le (by rw [s.length_coveredBytes_txPayload]; omega)
    rw [show (s.sending n).txCrcAcc = crcFold s.cfg.crc s.cfg.crc.init _ from rfl, hall, s.coveredBytes_txPayload]
    rfl

theorem State.sending_txOut_append (hn : n ≤ 5 + s.txLen.toNat) :
    (s.sending n).txOut ++ [(s.sending n).txWireByte] = (s.sending (n + 1)).txOut := by
  show s.txOut ++ s.txFrame.take n ++ _ = s.txOut ++ s.txFrame.take (n + 1)
  rw [List.take_add_one, State.txFrame_getElem?_eq_txWireByte hmax hn, List.append_assoc]
  rfl

/-- The running CRC is fed exactly the bytes that R46 covers, one by one. -/
theorem State.sending_feeds_covered (hn : n ≤ 5 + s.txLen.toNat) :
    (if 1 ≤ n ∧ n ≤ 3 + (s.sending n).txLen.toNat then
        crcUpdate (s.sending n).cfg.crc (s.sending n).txCrcAcc (s.sending n).txWireByte
      else (s.sending n).txCrcAcc) = (s.sending (n + 1)).txCrcAcc := by
  show (if 1 ≤ n ∧ n ≤ 3 + s.txLen.toNat then _ else _) =
    crcFold s.cfg.crc s.cfg.crc.init ((coveredBytes s.txSeq s.txPayload).take n)
  have hlength := s.length_coveredBytes_txPayload
  split
  · next hcovered =>
    obtain ⟨m, rfl⟩ := Nat.exists_eq_add_one.2 hcovered.1
    have hbyte : (coveredBytes s.txSeq s.txPayload)[m]? = some (s.sending (m + 1)).txWireByte := by
      rw [← State.txFrame_getElem?_eq_txWireByte hmax hn, State.txFrame, wireFrame, List.append_assoc, List.singleton_append,
        List.getElem?_cons_succ, List.getElem?_append_left (by omega)]
    rw [List.take_add_one, hbyte, crcFold_append]
    rfl
  · next hnot =>
    rcases Nat.eq_zero_or_pos n with rfl | hpos
    · rfl
    · rw [List.take_of_length_le (by omega)]
      exact congrArg _ (List.take_of_length_le (by omega))

theorem State.sending_emitByte (hn : n < 5 + s.txLen.toNat) : (s.sending n).emitByte = s.sending (n + 1) := by
  have hmore : ¬ n = 5 + (s.sending n).txLen.toNat := hn.ne
  have hnext : (s.sending n).txIdx + 1 = (s.sending (n + 1)).txIdx := (BitVec.ofNat_add n 1).symm
  rw [State.emitByte_eq, State.sending_txIdx_toNat hmax hn.le, if_neg hmore, if_neg hmore, if_neg hmore,
    State.sending_feeds_covered hmax hn.le, State.sending_txOut_append hmax hn.le, hnext]
  rfl

theorem State.sending_emitByte_last : (s.sending (5 + s.txLen.toNat)).emitByte = s.sent := by
  have hlast : 5 + s.txLen.toNat = 5 + (s.sending (5 + s.txLen.toNat)).txLen.toNat := rfl
  have hall : s.txFrame.take (5 + s.txLen.toNat + 1) = s.txFrame :=
    List.take_of_length_le (by rw [s.length_txFrame]; omega)
  have hcovered : (coveredBytes s.txSeq s.txPayload).take (5 + s.txLen.toNat) = coveredBytes s.txSeq s.txPayload :=
    List.take_of_length_le (by rw [s.length_coveredBytes_txPayload]; omega)
  rw [State.emitByte_eq, State.sending_txIdx_toNat hmax le_rfl, if_pos hlast, if_pos hlast, if_pos hlast,
    State.sending_feeds_covered hmax le_rfl, State.sending_txOut_append hmax le_rfl]
  rw [State.sent, ← hall, ← hcovered]
  rfl

end

/-! ## The runs -/

theorem exec_send_of_legal {s : State} (hidle : s.txBusy = false) (hmax : s.txLen.toNat ≤ s.cfg.maxPayload) :
    exec .send s = .next s.startSend :=
  (if_neg (Bool.eq_false_iff.1 hidle)).trans (if_neg (Nat.not_lt.2 hmax))

theorem exec_txEmit_of_busy {s : State} (hb : s.txBusy = true) : exec .txEmit s = .next s.emitByte := if_pos hb

theorem step_txReady_of_busy {s : State} {rest : List Stimulus} (hp : s.pending = .txReady :: rest) (hb : s.txBusy = true) :
    step s = .next (State.emitByte { s with pending := rest }) :=
  (step_of_pending hp).trans (exec_txEmit_of_busy hb)

/-- `s` with these stimuli next. -/
def State.withPending (s : State) (p : List Stimulus) : State := { s with pending := p }

section
variable {s : State} (hmax : s.txLen.toNat ≤ s.cfg.maxPayload)
include hmax

theorem step_sending {n : Nat} (p : List Stimulus) (hn : n < 5 + s.txLen.toNat) :
    step ((s.withPending (.txReady :: p)).sending n) = .next ((s.withPending p).sending (n + 1)) := by
  rw [← State.sending_emitByte (s := s.withPending p) hmax hn]
  exact step_txReady_of_busy (s := (s.withPending (.txReady :: p)).sending n) rfl rfl

theorem step_sending_last (p : List Stimulus) :
    step ((s.withPending (.txReady :: p)).sending (5 + s.txLen.toNat)) = .next (s.withPending p).sent := by
  rw [← State.sending_emitByte_last (s := s.withPending p) hmax]
  exact step_txReady_of_busy (s := (s.withPending (.txReady :: p)).sending _) rfl rfl

/-- Emit steps short of the frame's last byte. -/
theorem run_sending {n k : Nat} (later : List Stimulus) (hn : n + k ≤ 5 + s.txLen.toNat) :
    core.run k ((s.withPending (List.replicate k .txReady ++ later)).sending n) =
      .next ((s.withPending later).sending (n + k)) := by
  induction k generalizing n with
  | zero => rfl
  | succ k ih =>
    have hfirst := step_sending hmax (List.replicate k .txReady ++ later) (show n < 5 + s.txLen.toNat by omega)
    rw [show n + (k + 1) = n + 1 + k by omega] at hn ⊢
    exact (core_run_succ k hfirst).trans (ih hn)

/-- SEND with a legal length, and as many emit steps as the frame has bytes (R78, R79). -/
theorem run_send {later : List Stimulus} (hidle : s.txBusy = false)
    (hp : s.pending = .command 0x00000002 :: List.replicate (6 + s.txLen.toNat) .txReady ++ later) :
    core.run (7 + s.txLen.toNat) s = .next (s.withPending later).sent := by
  rw [Nat.add_right_comm 5 1, List.replicate_succ', List.cons_append, List.append_assoc] at hp
  have hcommand : step s =
      .next ((s.withPending (List.replicate (5 + s.txLen.toNat) .txReady ++ .txReady :: later)).sending 0) := by
    rw [step_of_pending hp, ← State.startSend_eq_sending]
    exact exec_send_of_legal (s := s.withPending _) hidle hmax
  have hbytes := run_sending (n := 0) (k := 5 + s.txLen.toNat) hmax (.txReady :: later) (Nat.zero_add _).le
  rw [Nat.zero_add] at hbytes
  rw [show 7 + s.txLen.toNat = 5 + s.txLen.toNat + 1 + 1 by omega]
  exact (core_run_succ _ hcommand).trans
    ((run_add core _ 1 _ _ hbytes).trans ((run_one core _).trans (step_sending_last hmax later)))

end

/-! ## The loop back -/

/-- Bytes arrive, and a receive is armed (R12, R61). -/
theorem run_arrive_recv {s : State} {bytes : List Byte} {rest : List Stimulus} (hidle : s.rxBusy = false)
    (hp : s.pending = .rxArrive bytes :: .command 0x00000001 :: rest) :
    core.run 2 s = .next ((s.withPending rest).rxArrive bytes).armReceive := by
  have harrive : step s = .next ((s.withPending (.command 0x00000001 :: rest)).rxArrive bytes) := step_of_pending hp
  have hrecv : step ((s.withPending (.command 0x00000001 :: rest)).rxArrive bytes) = _ := step_of_pending rfl
  exact (core_run_succ 1 harrive).trans ((run_one core _).trans (hrecv.trans
    (exec_recv_of_idle (s := (s.withPending rest).rxArrive bytes) hidle)))

/-- A frame that arrives before a receive is armed waits in the queue and is received then (R76). -/
theorem run_arrive_receive {s : State} {seq : Byte} {payload : List Byte} {n : Nat} {later : List Stimulus}
    (hp : s.pending = .rxArrive (wireFrame s.cfg seq payload) :: .command 0x00000001 ::
      (List.replicate (6 + n) .rxStep ++ later))
    (hlength : payload.length = n) (hmax : n ≤ s.cfg.maxPayload) (hidle : s.rxBusy = false) (hq : s.rxQueue = [])
    (hne : ∀ b ∈ (wireFrame s.cfg seq payload).tail, b ≠ s.cfg.startByte) :
    ∃ t : State, core.run (8 + n) s = .next t ∧ t.rxResult = .frame ∧ t.rxSeq = seq ∧ t.rxLen = BitVec.ofNat 16 n ∧
      (∀ k b, payload[k]? = some b → t.rxByte k = b) ∧ t.rxDone = true ∧ t.txOut = s.txOut ∧ t.txDone = s.txDone := by
  subst hlength
  have harmed := run_arrive_recv hidle hp
  obtain ⟨t, hcons, ht, hstored⟩ := consumes_wireFrame
    (s := ((s.withPending (List.replicate (6 + payload.length) .rxStep ++ later)).rxArrive
      (wireFrame s.cfg seq payload)).armReceive) rfl hmax hne
  have hqueued : s.rxQueue ++ wireFrame s.cfg seq payload = wireFrame s.cfg seq payload ++ [] := by
    rw [hq, List.append_nil, List.nil_append]
  have hreceived := hcons.run_eq hqueued (by rw [length_wireFrame]; rfl)
  rw [length_wireFrame] at hreceived
  rw [show 8 + payload.length = 2 + (6 + payload.length) by omega]
  refine ⟨_, (run_add core 2 _ _ _ harmed).trans hreceived, ?_⟩
  rw [ht] at hstored ⊢
  exact ⟨rfl, rfl, rfl, hstored, rfl, rfl, rfl⟩

/-- Settles O10: SEND and its emit steps put the frame on the wire, and the RX engine, which they do not touch, receives it. -/
theorem loopbackDeliversThePayload : Obligations.LoopbackDeliversThePayload := by
  intro s frame later hframe htx hrx _ hq hmax hne hp
  obtain rfl : frame = s.txFrame := hframe
  rw [List.append_assoc, List.append_assoc] at hp
  have hsend := run_send hmax htx hp
  obtain ⟨t, hreceive, hresult, hseq, hlen, hbytes, hdone, hout, htxDone⟩ :=
    run_arrive_receive (s := (s.withPending (.rxArrive s.txFrame :: _)).sent) (seq := s.txSeq) (payload := s.txPayload)
      rfl s.length_txPayload hmax hrx hq hne
  rw [BitVec.ofNat_toNat, BitVec.setWidth_eq] at hlen
  refine ⟨t, ?_, hout, hresult, hseq, hlen, fun k hk => hbytes k _ ?_, htxDone, hdone⟩
  · rw [show 15 + 2 * s.txLen.toNat = 7 + s.txLen.toNat + (8 + s.txLen.toNat) by omega]
    exact (run_add core _ _ _ _ hsend).trans hreceive
  · simp [State.txPayload, hk]

end Sys2Proof.Machine
end

section
/-! The advisory fields (R71, R98): `rx_seq` and `health` are written and shown, and never used. -/
namespace Sys2Proof.Machine

/-- `s` with another `rx_seq`, another `health`, or both. -/
def State.withAdvisory (s : State) (q : Option Byte) (h : Option Health) : State :=
  { s with rxSeq := q.getD s.rxSeq, health := h.getD s.health }

/-- After the operation the two states still differ in the advisory fields only, and in none in which they did not before. -/
def IgnoresAdvisory (q : Option Byte) (h : Option Health) (run : State → Result) : Prop :=
  ∀ s t, run s = .next t → ∃ q' h', run (s.withAdvisory q h) = .next (t.withAdvisory q' h') ∧
    (q = none → q' = none) ∧ (h = none → h' = none)

section
variable {q : Option Byte} {h : Option Health} {f g : State → State}

/-- An update that leaves the advisory fields as they are. -/
theorem IgnoresAdvisory.of_kept (hf : ∀ s : State, f (s.withAdvisory q h) = (f s).withAdvisory q h) :
    IgnoresAdvisory q h fun s => .next (f s) := fun s t hrun => by
  obtain rfl := Host.Outcome.next.inj hrun
  exact ⟨q, h, congrArg _ (hf s), id, id⟩

/-- An update that writes `rx_seq`. -/
theorem IgnoresAdvisory.of_rxSeq_written (hf : ∀ s : State, f (s.withAdvisory q h) = (f s).withAdvisory none h) :
    IgnoresAdvisory q h fun s => .next (f s) := fun s t hrun => by
  obtain rfl := Host.Outcome.next.inj hrun
  exact ⟨none, h, congrArg _ (hf s), fun _ => rfl, id⟩

/-- An update that writes `health`. -/
theorem IgnoresAdvisory.of_health_written (hf : ∀ s : State, f (s.withAdvisory q h) = (f s).withAdvisory q none) :
    IgnoresAdvisory q h fun s => .next (f s) := fun s t hrun => by
  obtain rfl := Host.Outcome.next.inj hrun
  exact ⟨q, none, congrArg _ (hf s), id, fun _ => rfl⟩

/-- A branch on a condition that does not read the advisory fields. -/
theorem IgnoresAdvisory.ite {c : State → Prop} [DecidablePred c] {r r' : State → Result}
    (hc : ∀ s : State, c (s.withAdvisory q h) ↔ c s) (hr : IgnoresAdvisory q h r) (hr' : IgnoresAdvisory q h r') :
    IgnoresAdvisory q h fun s => if c s then r s else r' s := fun s t => by
  simp only [hc]
  split
  · exact hr s t
  · exact hr' s t

/-- An operation after an update that leaves the advisory fields as they are. -/
theorem IgnoresAdvisory.comp_kept {r : State → Result} (hr : IgnoresAdvisory q h r)
    (hf : ∀ s : State, f (s.withAdvisory q h) = (f s).withAdvisory q h) :
    IgnoresAdvisory q h fun s => r (f s) := fun s t => by
  simp only [hf]
  exact hr (f s) t

theorem ignoresAdvisory_same : IgnoresAdvisory q h fun s => .next s := .of_kept fun _ => rfl

/-- A data-byte row ignores the advisory fields when its effect does: its condition does not read them. -/
theorem ignoresAdvisory_onDataByte {st : RxState} {d : Byte} (hf : IgnoresAdvisory q h fun s => .next (f s)) :
    IgnoresAdvisory q h (onDataByte st d f) :=
  .ite (fun _ => Iff.rfl) hf ignoresAdvisory_same

theorem ignoresAdvisory_execRecv : IgnoresAdvisory q h execRecv :=
  .ite (fun _ => Iff.rfl) (.of_kept fun _ => rfl) (.of_kept fun _ => rfl)

theorem ignoresAdvisory_execSend : IgnoresAdvisory q h execSend :=
  .ite (fun _ => Iff.rfl) (.of_kept fun _ => rfl) (.ite (fun _ => Iff.rfl) (.of_kept fun _ => rfl) (.of_kept fun _ => rfl))

theorem ignoresAdvisory_execWrCmd (v : Word) : IgnoresAdvisory q h (execWrCmd v) := by
  unfold execWrCmd
  generalize (commandOp v).toNat = op
  match op with
  | 0 => exact ignoresAdvisory_same
  | 1 => exact ignoresAdvisory_execRecv
  | 2 => exact ignoresAdvisory_execSend
  | 3 | 4 | 5 | 6 | 7 | _ + 8 => exact .of_kept fun _ => rfl

theorem ignoresAdvisory_execEnvTick : IgnoresAdvisory q h execEnvTick :=
  .ite (fun _ => Iff.rfl) (.ite (fun _ => Iff.rfl) (.of_kept fun _ => rfl) (.of_kept fun _ => rfl)) ignoresAdvisory_same

theorem ignoresAdvisory_lengthDeclared : IgnoresAdvisory q h fun s => .next s.lengthDeclared := by
  simp only [State.lengthDeclared, apply_ite Host.Outcome.next]
  exact .ite (fun _ => Iff.rfl) (.of_kept fun _ => rfl)
    (.ite (fun _ => Iff.rfl) (.of_kept fun _ => rfl) (.of_kept fun _ => rfl))

theorem ignoresAdvisory_checkChecksum : IgnoresAdvisory q h fun s => .next s.checkChecksum := by
  simp only [State.checkChecksum, apply_ite Host.Outcome.next]
  exact .ite (fun _ => Iff.rfl) (.of_health_written fun _ => rfl) (.of_health_written fun _ => rfl)

theorem ignoresAdvisory_storeTxWord (i : Nat) (v : Word) : IgnoresAdvisory q h fun s => .next (s.storeTxWord i v) := by
  simp only [State.storeTxWord_eq]
  exact .of_kept fun _ => rfl

theorem ignoresAdvisory_emitByte : IgnoresAdvisory q h fun s => .next s.emitByte := by
  simp only [State.emitByte_eq]
  exact .of_kept fun _ => rfl

/-- Row by row of the opcode table; the two reads that show a field are left out where that field differs. -/
theorem exec_ignoresAdvisory {i : Instr} (hseq : i = .rdRxInfo → q = none) (hhealth : i = .rdStatus → h = none) :
    IgnoresAdvisory q h (exec i) := by
  cases i with
  | recv => exact ignoresAdvisory_execRecv
  | send => exact ignoresAdvisory_execSend
  | wrCmd v => exact ignoresAdvisory_execWrCmd v
  | rxStart => exact .ite (fun _ => Iff.rfl) (.of_rxSeq_written fun _ => rfl) ignoresAdvisory_same
  | rxSeq d => exact ignoresAdvisory_onDataByte (.of_rxSeq_written fun _ => rfl)
  | rxWait d | rxLenLo d | rxPayload d | rxCrcLo d => exact ignoresAdvisory_onDataByte (.of_kept fun _ => rfl)
  | rxLenHi d => exact ignoresAdvisory_onDataByte (ignoresAdvisory_lengthDeclared.comp_kept fun _ => rfl)
  | rxCrcHi d => exact ignoresAdvisory_onDataByte (ignoresAdvisory_checkChecksum.comp_kept fun _ => rfl)
  | txEmit => exact .ite (fun _ => Iff.rfl) ignoresAdvisory_emitByte ignoresAdvisory_same
  | envTick => exact ignoresAdvisory_execEnvTick
  | envTimeout | envResetRx | envResetTx | wrTxCfg | wrbTxBuf =>
    exact .ite (fun _ => Iff.rfl) (.of_kept fun _ => rfl) (.of_kept fun _ => rfl)
  | wrTxBuf k v => exact .ite (fun _ => Iff.rfl) ignoresAdvisory_same (ignoresAdvisory_storeTxWord _ v)
  | rdRxInfo =>
    obtain rfl := hseq rfl
    exact .of_kept fun _ => rfl
  | rdStatus =>
    obtain rfl := hhealth rfl
    exact .of_kept fun _ => rfl
  | illegalAccess => exact fun _ _ => nofun
  | _ => exact .of_kept fun _ => rfl

end

/-- Settles O55: the two states differ in one advisory field before, so in at most that one after. -/
theorem advisoryFieldsAreNeverUsed : Obligations.AdvisoryFieldsAreNeverUsed := by
  intro i s t hrun
  refine ⟨fun q hi => ?_, fun h hi => ?_⟩
  · obtain ⟨q', h', hother, -, hnone⟩ := exec_ignoresAdvisory (q := some q) (absurd · hi) (fun _ => rfl) s t hrun
    obtain rfl := hnone rfl
    exact ⟨_, hother⟩
  · obtain ⟨q', h', hother, hnone, -⟩ := exec_ignoresAdvisory (h := some h) (fun _ => rfl) (absurd · hi) s t hrun
    obtain rfl := hnone rfl
    exact ⟨_, hother⟩

end Sys2Proof.Machine
end

section
/-! The transmit framer's statements (42_tx_framer.md): the SEND command, one emit step, and the frame the two put on the wire. -/
namespace Sys2Proof.Machine

/-! ## SEND (R78) -/

theorem decodeCommand_of_op_two {w : Word} (h : commandOp w = 2) : decodeCommand w = .send := by
  simp [decodeCommand, h]

theorem exec_send_of_busy {s : State} (hb : s.txBusy = true) : exec .send s = .next (s.rejectCommand .txBusy) := if_pos hb

theorem exec_send_of_illegal {s : State} (hidle : s.txBusy = false) (hover : s.cfg.maxPayload < s.txLen.toNat) :
    exec .send s = .next (s.rejectCommand .txLength) :=
  (if_neg (Bool.eq_false_iff.1 hidle)).trans (if_pos hover)

/-- Settles O21: the OP decides, and `tx_busy`, then the length, decides between the two rejections and the start. -/
theorem sendStartsOrIsRejected : Obligations.SendStartsOrIsRejected :=
  ⟨fun _ => decodeCommand_of_op_two, fun _ => ⟨exec_send_of_busy, exec_send_of_illegal, exec_send_of_legal⟩⟩

/-! ## The emit step (R79) -/

/-- Settles O44: the byte sent is the one R45's table has at `tx_idx`, and the emission is one record update. -/
theorem emitStepSendsTheIndexedByte : Obligations.EmitStepSendsTheIndexedByte := by
  intro s hb hidx
  rw [Nat.add_comm] at hidx
  refine ⟨s.txWireByte, s.emitByte, State.getElem?_txIdx_eq_txWireByte hidx, exec_txEmit_of_busy hb, ?_⟩
  rw [State.emitByte_eq, hb]

/-! ## The whole frame (R45, R78, R79) -/

/-- Settles O9: the run of SEND and the frame's emit steps ends in `State.sent`, which has the frame on the wire. -/
theorem sendEmitsTheFrame : Obligations.SendEmitsTheFrame := fun s later hidle hmax hp =>
  ⟨(s.withPending later).sent, run_send hmax hidle hp, rfl, rfl⟩

end Sys2Proof.Machine
end

section
/-! The commands as the host gives them (R82 to R84): NOP, the reserved commands, and the write to CMD. -/
namespace Sys2Proof.Machine

theorem decodeCommand_of_op_zero {w : Word} (h : commandOp w = 0) : decodeCommand w = .nop := by
  simp [decodeCommand, h]

/-- Settles O19: the OP decides. -/
theorem nopChangesNothing : Obligations.NopChangesNothing := ⟨fun _ => decodeCommand_of_op_zero, fun _ => rfl⟩

/-- Settles O22: a command word does what its write to CMD does, which rejects a reserved OP. -/
theorem reservedCommandsAreRejected : Obligations.ReservedCommandsAreRejected :=
  ⟨fun w s h => (exec_decodeCommand w s).trans (execWrCmd_reserved s h), fun _ => rfl, fun _ _ => rfl, fun _ _ => rfl⟩

/-- A write to CMD has the effect of the row its data word decodes to (R82). -/
theorem exec_wrCmd_of_decode {v : Word} {i : Instr} (s : State) (h : decodeCommand v = i) : exec (.wrCmd v) s = exec i s :=
  h ▸ (exec_decodeCommand v s).symm

/-- Settles O23: the write runs the row that its word decodes to, and decoding looks at OP and DATA only. -/
theorem writeToCmdRunsTheCommand : Obligations.WriteToCmdRunsTheCommand := by
  intro v v' s
  refine ⟨decodeAccess_write_of_admitted v (by decide), fun h => ?nop, fun h => ?recv, fun h => ?send, fun h => ?crcInit,
    fun h => ?crcUpdate, execWrCmd_reserved s, execWrCmd_ends v s, fun hop hdata => ?sameFields⟩
  case nop => exact exec_wrCmd_of_decode s (decodeCommand_of_op_zero h)
  case recv => exact exec_wrCmd_of_decode s (decodeCommand_of_op_one h)
  case send => exact exec_wrCmd_of_decode s (decodeCommand_of_op_two h)
  case crcInit => exact exec_wrCmd_of_decode s (decodeCommand_of_op_three h)
  case crcUpdate => exact exec_wrCmd_of_decode s (decodeCommand_of_op_four h)
  case sameFields =>
    have hrow : decodeCommand v = decodeCommand v' := decodeCommand_congr hop fun _ => hdata
    exact (exec_wrCmd_of_decode s hrow).trans (exec_decodeCommand v' s)

end Sys2Proof.Machine
end

section
/-! Writes to the other registers and to the buffers (R85 to R88). -/
namespace Sys2Proof.Machine

/-! ## STATUS (R85) -/

/-- A flag that a 1 clears, as the choice between cleared and kept. -/
theorem and_not_eq_ite (flag one : Bool) : (flag && !one) = if one then false else flag := by
  cases one <;> simp

/-- Settles O24. -/
theorem statusWriteOneToClear : Obligations.StatusWriteOneToClear := by
  intro v s
  simp only [← and_not_eq_ite]
  rfl

/-! ## TX_CFG (R86) -/

theorem exec_wrTxCfg_of_busy {s : State} (hb : s.txBusy = true) (v : Word) : exec (.wrTxCfg v) s = .next s := if_pos hb

theorem exec_wrTxCfg_of_idle {s : State} (hidle : s.txBusy = false) (v : Word) :
    exec (.wrTxCfg v) s = .next { s with txSeq := txCfgSeq v, txLen := txCfgLen v } :=
  if_neg (Bool.eq_false_iff.1 hidle)

/-- Settles O25: `tx_busy` decides. -/
theorem txCfgWriteStoresWhileIdle : Obligations.TxCfgWriteStoresWhileIdle := fun v _ =>
  ⟨fun hidle => exec_wrTxCfg_of_idle hidle v, fun hb => exec_wrTxCfg_of_busy hb v⟩

/-! ## TX_BUF (R87) -/

section
variable {s : State}

theorem exec_wrbTxBuf_of_busy (hb : s.txBusy = true) (i b : Byte) : exec (.wrbTxBuf i b) s = .next s := if_pos hb

theorem exec_wrbTxBuf_of_idle (hidle : s.txBusy = false) (i b : Byte) :
    exec (.wrbTxBuf i b) s = .next (s.storeTxByte i.toNat b) :=
  if_neg (Bool.eq_false_iff.1 hidle)

theorem exec_wrTxBuf_of_busy (hb : s.txBusy = true) (k : BitVec 6) (v : Word) : exec (.wrTxBuf k v) s = .next s := if_pos hb

theorem exec_wrTxBuf_of_idle (hidle : s.txBusy = false) (k : BitVec 6) (v : Word) :
    exec (.wrTxBuf k v) s = .next (s.storeTxWord (4 * k.toNat) v) := by
  rw [Nat.mul_comm, ← toNat_wordByteIndex]
  exact if_neg (Bool.eq_false_iff.1 hidle)

end

/-- Bytes at index MAX_PAYLOAD and above read 0 (R23). -/
theorem State.rxByte_of_reserved {s : State} {j : Nat} (h : s.cfg.maxPayload ≤ j) : s.rxByte j = 0 := if_neg (Nat.not_lt.2 h)

theorem State.txByte_of_reserved {s : State} {j : Nat} (h : s.cfg.maxPayload ≤ j) : s.txByte j = 0 := if_neg (Nat.not_lt.2 h)

/-- A byte store reaches its own index, if that is below MAX_PAYLOAD; a reserved index reads 0 before and after it. -/
theorem State.txByte_storeTxByte_eq_ite (s : State) (i j : Nat) (b : Byte) :
    (s.storeTxByte i b).txByte j = if j = i ∧ j < s.cfg.maxPayload then b else s.txByte j := by
  rw [State.txByte_storeTxByte]
  by_cases hj : j = i
  · subst hj
    by_cases hmax : j < s.cfg.maxPayload
    · simp [hmax]
    · simp [hmax, State.txByte_of_reserved (Nat.not_lt.1 hmax)]
  · simp [hj]

/-- A word store reaches its four indexes below MAX_PAYLOAD. -/
theorem State.txByte_storeTxWord_eq_ite (s : State) (i j : Nat) (v : Word) :
    (s.storeTxWord i v).txByte j =
      if i ≤ j ∧ j < i + 4 ∧ j < s.cfg.maxPayload then byteLane v (j - i) else s.txByte j := by
  rw [State.txByte_storeTxWord]
  by_cases hmax : j < s.cfg.maxPayload
  · simp [hmax]
  · simp [hmax, State.txByte_of_reserved (Nat.not_lt.1 hmax)]

/-- Settles O26: `tx_busy` decides, and a store is read back at its own indexes below MAX_PAYLOAD and nowhere else. -/
theorem txBufWriteStoresWhileIdle : Obligations.TxBufWriteStoresWhileIdle := fun s =>
  ⟨fun i b hb => exec_wrbTxBuf_of_busy hb i b,
    fun k v hb => exec_wrTxBuf_of_busy hb k v,
    fun i b hidle => ⟨_, exec_wrbTxBuf_of_idle hidle i b, rfl, fun j => s.txByte_storeTxByte_eq_ite i.toNat j b⟩,
    fun k v hidle => ⟨_, exec_wrTxBuf_of_idle hidle k v, s.storeTxWord_eq _ v, fun j => s.txByte_storeTxWord_eq_ite _ j v⟩⟩

/-! ## Ignored writes (R88) -/

/-- Settles O27: each of the six rows answers its own state. -/
theorem ignoredWritesChangeNothing : Obligations.IgnoredWritesChangeNothing := fun _ _ _ _ _ =>
  ⟨rfl, rfl, rfl, rfl, rfl, rfl⟩

end Sys2Proof.Machine
end

section
/-! What the reads return (R89, R90). The model shifts a register's fields into place; here they stand side by side. -/
namespace Sys2Proof.Machine

/-! ## Registers (R89) -/

/-- Two fields side by side, in the model's form: the upper one is shifted left by the width of the lower one. -/
theorem setWidth_append_eq_or {m n : Nat} (w : Nat) (x : BitVec m) (y : BitVec n) :
    (x ++ y).setWidth w = y.setWidth w ||| x.setWidth w <<< n :=
  BitVec.setWidth_append_eq_shiftLeft_setWidth_or.trans (BitVec.or_comm _ _)

/-- STATUS from bit 31 down to bit 0. -/
theorem State.statusWord_eq_append (s : State) : s.statusWord =
    0#12 ++ s.cmdCause.code ++ 0#1 ++ s.rxState.code ++ 0#1 ++ s.rxResult.code ++ s.health.code ++ BitVec.ofBool s.txErr
      ++ BitVec.ofBool s.cmdErr ++ BitVec.ofBool s.txDone ++ BitVec.ofBool s.txBusy ++ BitVec.ofBool s.rxDone
      ++ BitVec.ofBool s.rxBusy := by
  rw [← BitVec.setWidth_eq (_ ++ BitVec.ofBool s.rxBusy)]
  simp only [setWidth_append_eq_or, BitVec.shiftLeft_or_distrib, ← BitVec.shiftLeft_add, ← BitVec.or_assoc]
  simp only [BitVec.setWidth_zero, BitVec.zero_shiftLeft, BitVec.or_zero]
  rfl

/-- The layout that RX_INFO and TX_CFG share: a length in the upper half, a byte in the lowest lane. -/
theorem or_shiftLeft_eq_append (h : Half) (b : Byte) : b.setWidth 32 ||| h.setWidth 32 <<< 16 = h ++ 0#8 ++ b := by
  rw [← BitVec.setWidth_eq (_ ++ b)]
  simp only [setWidth_append_eq_or, BitVec.setWidth_zero, BitVec.zero_or, ← BitVec.shiftLeft_add]

theorem State.rxCrcWord_eq_append (s : State) : s.rxCrcWord = s.rxCrcCalc ++ s.rxCrcRecv :=
  (setWidth_append_eq_or 32 _ _).symm.trans (BitVec.setWidth_eq _)

/-- A read that answers a value, with the value written in another way. -/
theorem next_hostReads_of_eq {s : State} {v v' : Word} (h : v = v') :
    (.next (s.hostReads v) : Result) = .next { s with hostA := v' } := h ▸ rfl

/-- Settles O28: each register is the word of its fields. -/
theorem registerReadsReturnTheirFields : Obligations.RegisterReadsReturnTheirFields := fun s =>
  ⟨next_hostReads_of_eq s.statusWord_eq_append,
    next_hostReads_of_eq (or_shiftLeft_eq_append s.rxLen s.rxSeq),
    next_hostReads_of_eq s.rxCrcWord_eq_append,
    next_hostReads_of_eq (BitVec.setWidth_eq_append (by decide)),
    next_hostReads_of_eq (or_shiftLeft_eq_append s.txLen s.txSeq),
    next_hostReads_of_eq s.crcValueWord_eq_append,
    rfl,
    fun _ => rfl⟩

/-! ## Buffers (R90) -/

/-- Settles O30: an 8-bit read returns its byte zero-extended, a 32-bit read its four bytes. -/
theorem bufferReadsReturnTheirBytes : Obligations.BufferReadsReturnTheirBytes := fun _ _ =>
  ⟨next_hostReads_of_eq (BitVec.setWidth_eq_append (by decide)),
    rfl,
    next_hostReads_of_eq (BitVec.setWidth_eq_append (by decide)),
    rfl,
    fun _ hj => ⟨State.rxByte_of_reserved hj, State.txByte_of_reserved hj⟩⟩

end Sys2Proof.Machine
end

section
/-! Which accesses end in a bus error (R26, R91, R94). -/
namespace Sys2Proof.Machine

theorem admitted_iff (a : BusAccess) : a.admitted = true ↔
    (a.width = 32 ∧ a.addr.toNat % 4 = 0) ∨ (a.width = 8 ∧ 0x100 ≤ a.addr.toNat ∧ a.addr.toNat < 0x300) := by
  unfold BusAccess.admitted aligned
  grind

/-! ## What ends in a next state -/

theorem ends_ite {c : Prop} [Decidable c] {r r' : Result} (h : ∃ t, r = .next t) (h' : ∃ t, r' = .next t) :
    ∃ t, (if c then r else r') = .next t :=
  iteInduction (motive := fun x : Result => ∃ t, x = .next t) (fun _ => h) (fun _ => h')

/-- Every operation but the illegal access ends in a next state. -/
theorem exec_ends {i : Instr} (hi : ∀ a, i ≠ .illegalAccess a) (s : State) : ∃ t, exec i s = .next t := by
  cases i with
  | recv => exact execRecv_ends s
  | send => exact execSend_ends s
  | wrCmd v => exact execWrCmd_ends v s
  | rxStart | rxWait | rxSeq | rxLenLo | rxLenHi | rxPayload | rxCrcLo | rxCrcHi | txEmit | envTimeout | envResetRx | envResetTx
  | wrTxCfg | wrbTxBuf | wrTxBuf => exact ends_ite ⟨_, rfl⟩ ⟨_, rfl⟩
  | envTick => exact ends_ite (ends_ite ⟨_, rfl⟩ ⟨_, rfl⟩) ⟨_, rfl⟩
  | illegalAccess a => exact absurd rfl (hi a)
  | nop | crcInit | crcUpdate | reservedOp5 | reservedOp6to7 | reservedOp8toF | wrStatus | wrRxInfo | wrRxCrc | wrRxCount
  | wrCrcValue | wrRxBuf | wrReserved | rdCmd | rdStatus | rdRxInfo | rdRxCrc | rdRxCount | rdTxCfg | rdCrcValue | rdReserved
  | rdRxBuf | rdTxBuf => exact ⟨_, rfl⟩

/-! ## Which accesses do -/

theorem ite_ne_illegalAccess {c : Prop} [Decidable c] {i j : Instr} (hi : ∀ b, i ≠ .illegalAccess b)
    (hj : ∀ b, j ≠ .illegalAccess b) : ∀ b, (if c then i else j) ≠ .illegalAccess b :=
  iteInduction (motive := fun k : Instr => ∀ b, k ≠ .illegalAccess b) (fun _ => hi) (fun _ => hj)

/-- Only the test of R26 selects the illegal access: no offset's row is it. -/
theorem decodeAccess_ne_illegalAccess {a : BusAccess} (h : a.admitted = true) : ∀ b, decodeAccess a ≠ .illegalAccess b := by
  cases a with
  | read w addr =>
    rw [decodeAccess_read_of_admitted h, decodeRead]
    repeat' apply ite_ne_illegalAccess
    all_goals nofun
  | write w addr v =>
    rw [decodeAccess_write_of_admitted v h, decodeWrite]
    repeat' apply ite_ne_illegalAccess
    all_goals nofun

theorem exec_decodeAccess_of_admitted {a : BusAccess} (h : a.admitted = true) (s : State) :
    ∃ t, exec (decodeAccess a) s = .next t :=
  exec_ends (decodeAccess_ne_illegalAccess h) s

theorem exec_decodeAccess_of_not_admitted {a : BusAccess} (h : ¬ a.admitted = true) (s : State) :
    exec (decodeAccess a) s = .fault (.busError a.addr) := by
  have hrow : decodeAccess a = .illegalAccess a := if_neg h
  rw [hrow]
  rfl

theorem exec_decodeAccess_eq_fault_iff (a : BusAccess) (s : State) :
    exec (decodeAccess a) s = .fault (.busError a.addr) ↔ ¬ a.admitted = true := by
  refine ⟨fun hfault hadm => ?_, fun h => exec_decodeAccess_of_not_admitted h s⟩
  obtain ⟨t, hnext⟩ := exec_decodeAccess_of_admitted hadm s
  cases hfault.symm.trans hnext

/-- Settles O31: an access faults if R26 does not admit it, and ends in a next state if R26 does. -/
theorem busErrorExactlyForIllegalAccesses : Obligations.BusErrorExactlyForIllegalAccesses :=
  ⟨fun _ _ => rfl, fun a s => (exec_decodeAccess_eq_fault_iff a s).trans (not_congr (admitted_iff a)),
    fun a s h => exec_decodeAccess_of_admitted ((admitted_iff a).2 h) s⟩

end Sys2Proof.Machine
end

section
/-! What changes the rejection flags (R93), the completion output (R97) and `health` (R98), and what stays readable while no receive
is armed (R101, R113). -/
namespace Sys2Proof.Machine

/-! ## The rejection flags (R85, R93) -/

/-- A write to STATUS clears both flags or neither (R85). -/
theorem State.clearStatus_rejectionFlags (s : State) (v : Word) :
    (v.getLsbD 4 = true ∧ (s.clearStatus v).cmdErr = false ∧ (s.clearStatus v).cmdCause = .none) ∨
    ((s.clearStatus v).cmdErr = s.cmdErr ∧ (s.clearStatus v).cmdCause = s.cmdCause) := by
  cases hbit : v.getLsbD 4 <;> simp_all

/-- An operation leaves `cmd_err` and `cmd_cause`, or is rejected, or clears them by a write to STATUS. -/
theorem ExecEffect.rejectionFlags {s t : State} {i : Instr} (h : ExecEffect s i t) :
    (t.cmdErr = s.cmdErr ∧ t.cmdCause = s.cmdCause) ∨ (∃ c, c ≠ .none ∧ t = s.rejectCommand c) ∨
    ∃ v, i = .wrStatus v ∧ v.getLsbD 4 = true ∧ t.cmdErr = false ∧ t.cmdCause = .none := by
  cases h with
  | rejected _ c hc => exact .inr (.inl ⟨c, hc, rfl⟩)
  | wrStatus v =>
    rcases s.clearStatus_rejectionFlags v with hcleared | hkept
    · exact .inr (.inr ⟨v, rfl, hcleared⟩)
    · exact .inl hkept
  | rxLenHi d =>
    rw [State.lengthDeclared_eq_withTxSide]
    exact .inl ⟨rfl, rfl⟩
  | rxCrcHi d =>
    rw [State.checkChecksum_eq_withTxSide]
    exact .inl ⟨rfl, rfl⟩
  | txEmit =>
    rw [State.emitByte_eq]
    exact .inl ⟨rfl, rfl⟩
  | wrTxBuf k v =>
    rw [State.storeTxWord_eq]
    exact .inl ⟨rfl, rfl⟩
  | _ => exact .inl ⟨rfl, rfl⟩

/-- Settles O50: a rejection is one record update, and otherwise only W1C changes a flag. -/
theorem rejectionChangesOnlyItsFlag : Obligations.RejectionChangesOnlyItsFlag := by
  intro i s t h hchanged
  rcases (exec_effect i s t h).rejectionFlags with ⟨herr, hcause⟩ | ⟨c, hc, rfl⟩ | hcleared
  · exact hchanged.elim (absurd herr) (absurd hcause)
  · exact .inl ⟨rfl, hc, rfl⟩
  · exact .inr hcleared

/-! ## The completion output (R97) -/

theorem State.irq_eq_true (s : State) : s.irq = true ↔ s.rxDone = true ∨ s.txDone = true := Bool.or_eq_true_iff

theorem State.irq_eq_false (s : State) : s.irq = false ↔ s.rxDone = false ∧ s.txDone = false := Bool.or_eq_false_iff

/-- Settles O51: `irq` moves with `rx_done` or `tx_done`, and what moves those is tabled (R20). -/
theorem irqRisesAndFallsAsStated : Obligations.IrqRisesAndFallsAsStated := by
  intro i s t h
  obtain ⟨_, _, hrxRise, hrxFall⟩ := receiveFlagsChangeAsTabled i s t h
  obtain ⟨_, _, htxRise, htxFall, _⟩ := transmitFlagsChangeAsTabled i s t h
  simp only [State.irq_eq_true, State.irq_eq_false]
  refine ⟨fun ⟨hrx, htx⟩ hrise => ?_, fun hset ⟨hrx, htx⟩ => ?_⟩
  · rcases hrise with hdone | hdone
    · obtain ⟨harmed, hended⟩ := hrxRise hrx hdone
      exact .inl ⟨harmed, hended, hdone⟩
    · obtain ⟨hemit, _, hended⟩ := htxRise htx hdone
      exact .inr ⟨hemit, hended, hdone⟩
  · rcases hset with hdone | hdone
    · rcases hrxFall hdone hrx with hi | ⟨v, hi, hop⟩ | ⟨v, hi, hbit⟩
      · exact .inl hi
      · exact .inr (.inr (.inl ⟨v, hi, .inl hop⟩))
      · exact .inr (.inr (.inr ⟨v, hi, .inl hbit⟩))
    · rcases htxFall hdone htx with hi | ⟨v, hi, hop⟩ | ⟨v, hi, hbit⟩
      · exact .inr (.inl hi)
      · exact .inr (.inr (.inl ⟨v, hi, .inr hop⟩))
      · exact .inr (.inr (.inr ⟨v, hi, .inr hbit⟩))

/-! ## Health (R98) -/

theorem State.lengthDeclared_health (s : State) : s.lengthDeclared.health = s.health := by
  rcases s.lengthDeclared_cases with ⟨_, h⟩ | ⟨_, _, h⟩ | ⟨_, _, h⟩ <;> rw [h] <;> rfl

/-- The checksum verdict goes to `health` and to the result alike (R70, R98). -/
theorem State.checkChecksum_verdict (s : State) :
    (s.checkChecksum.health = .ok ∧ s.checkChecksum.rxResult = .frame) ∨
    (s.checkChecksum.health = .fail ∧ s.checkChecksum.rxResult = .checksumError) := by
  rcases s.checkChecksum_cases with ⟨_, h⟩ | ⟨_, h⟩ <;> rw [h]
  · exact .inl ⟨rfl, rfl⟩
  · exact .inr ⟨rfl, rfl⟩

/-- Settles O52: of all effects only the checksum verdict writes `health`. -/
theorem healthIsTheLastVerdict : Obligations.HealthIsTheLastVerdict := by
  intro i s t h
  cases exec_effect i s t h with
  | rxCrcHi d hb hst => exact .inr ⟨d, rfl, hb, hst, State.checkChecksum_verdict _⟩
  | rxLenHi d => exact .inl (State.lengthDeclared_health _)
  | txEmit =>
    rw [State.emitByte_eq]
    exact .inl rfl
  | wrTxBuf k v =>
    rw [State.storeTxWord_eq]
    exact .inl rfl
  | _ => exact .inl rfl

/-! ## The last frame (R58, R61, R101, R113) -/

/-- While no receive is armed, only an accepted RECV writes the result, and nothing writes the frame. -/
theorem ExecEffect.keeps_received {s t : State} {i : Instr} (h : ExecEffect s i t) (hidle : s.rxBusy = false) :
    (t.rxResult = s.rxResult ∨ isCommand .recv 1 i) ∧ t.rxSeq = s.rxSeq ∧ t.rxLen = s.rxLen ∧ t.rxCnt = s.rxCnt ∧
    t.rxCrcRecv = s.rxCrcRecv ∧ t.rxCrcCalc = s.rxCrcCalc ∧ t.rxBuf = s.rxBuf := by
  cases h with
  | armed _ hi => exact ⟨.inr hi, rfl, rfl, rfl, rfl, rfl, rfl⟩
  | rxStart hb | rxWait _ hb | rxSeq _ hb | rxLenLo _ hb | rxLenHi _ hb | rxPayload _ hb | rxCrcLo _ hb | rxCrcHi _ hb
  | lastTick hb | tick hb | timeout hb | resetRxArmed hb => exact absurd (hb.symm.trans hidle) nofun
  | txEmit =>
    rw [State.emitByte_eq]
    exact ⟨.inl rfl, rfl, rfl, rfl, rfl, rfl, rfl⟩
  | wrTxBuf k v =>
    rw [State.storeTxWord_eq]
    exact ⟨.inl rfl, rfl, rfl, rfl, rfl, rfl, rfl⟩
  | _ => exact ⟨.inl rfl, rfl, rfl, rfl, rfl, rfl, rfl⟩

/-- Settles O53: the buffer stays, and with it every byte read from it. -/
theorem lastFrameStaysReadable : Obligations.LastFrameStaysReadable := by
  intro i s t hidle h
  have heffect := exec_effect i s t h
  obtain ⟨hresult, hseq, hlen, hcnt, hrecv, hcalc, hbuf⟩ := heffect.keeps_received hidle
  obtain ⟨_, hresets⟩ := heffect.pending_resets_eq
  exact ⟨hresult, hseq, hlen, hcnt, hrecv, hcalc, State.rxByte_congr s t heffect.cfg_eq hbuf hresets⟩

end Sys2Proof.Machine
end

section
/-! A byte and a tick in one clock (R99): the byte restarts the timer (R60) or ends the receive, so the tick after it is not the last. -/
namespace Sys2Proof.Machine

/-- What a byte taken by an armed receive leaves of `s` in `t`. -/
inductive TakenByteEffect (s t : State) : Prop where
  /-- the receive goes on, and the byte has restarted the timer (R60) -/
  | restarted (hqueue : t.rxQueue = s.rxQueue) (hresult : t.rxResult = s.rxResult)
      (htimer : t.rxTimer = timerValue (reloadTicks s.cfg t.rxState))
  /-- the receive ends with a result of its own (R67, R70) -/
  | ended (hqueue : t.rxQueue = s.rxQueue) (hbusy : t.rxBusy = false) (hresult : t.rxResult ≠ .timeout)

theorem State.lengthDeclared_takenByteEffect (s : State) : TakenByteEffect s s.lengthDeclared := by
  rcases s.lengthDeclared_cases with ⟨_, h⟩ | ⟨_, _, h⟩ | ⟨_, _, h⟩ <;> rw [h]
  · exact .ended rfl rfl nofun
  · exact .restarted rfl rfl rfl
  · exact .restarted rfl rfl rfl

theorem State.checkChecksum_takenByteEffect (s : State) : TakenByteEffect s s.checkChecksum := by
  rcases s.checkChecksum_cases with ⟨_, h⟩ | ⟨_, h⟩ <;> rw [h] <;> exact .ended rfl rfl nofun

/-- What precedes the length check or the verdict writes neither the queue, the result nor the parameters. -/
theorem TakenByteEffect.of_prepared {s u t : State} (h : TakenByteEffect u t) (hqueue : u.rxQueue = s.rxQueue)
    (hresult : u.rxResult = s.rxResult) (hcfg : u.cfg = s.cfg) : TakenByteEffect s t := by
  cases h with
  | restarted hq hr ht => exact .restarted (hq.trans hqueue) (hr.trans hresult) (hcfg ▸ ht)
  | ended hq hb hr => exact .ended (hq.trans hqueue) hb hr

/-- Whatever the byte and the FSM state, the row of an armed receive takes the byte (R63 to R70). -/
theorem exec_decodeWire_of_armed {s : State} (hb : s.rxBusy = true) (b : Byte) :
    ∃ t, exec (decodeWire s.cfg.startByte s.rxState b) s = .next t ∧ TakenByteEffect s t := by
  unfold decodeWire
  by_cases hd : b = s.cfg.startByte
  · rw [if_pos hd]
    exact ⟨_, exec_rxStart_of_busy hb, .restarted rfl rfl rfl⟩
  · rw [if_neg hd]
    cases hst : s.rxState with
    | waitStart => exact ⟨_, (onDataByte_of_applies hb hst hd : execRxWait b s = _), .restarted rfl rfl rfl⟩
    | seq => exact ⟨_, exec_rxSeq_of_armed hb hd hst, .restarted rfl rfl rfl⟩
    | lenLo => exact ⟨_, exec_rxLenLo_of_armed hb hd hst, .restarted rfl rfl rfl⟩
    | lenHi => exact ⟨_, exec_rxLenHi_of_armed hb hd hst, (State.lengthDeclared_takenByteEffect _).of_prepared rfl rfl rfl⟩
    | payload => exact ⟨_, (onDataByte_of_applies hb hst hd : execRxPayload b s = _), .restarted rfl rfl rfl⟩
    | crcLo => exact ⟨_, exec_rxCrcLo_of_armed hb hd hst, .restarted rfl rfl rfl⟩
    | crcHi => exact ⟨_, exec_rxCrcHi_of_armed hb hd hst, (State.checkChecksum_takenByteEffect _).of_prepared rfl rfl rfl⟩

/-- With reload values of 2 ticks or more, a reload loads 2 or more (R60). -/
theorem one_lt_timerValue_reloadTicks {c : Config} (hwf : c.wf = true) (hhdr : 2 ≤ c.tHdr) (hpay : 2 ≤ c.tPay) (st : RxState) :
    1 < (timerValue (reloadTicks c st)).toNat := by
  obtain ⟨hhdrFits, hpayFits⟩ := (config_wf_iff c).1 hwf
  rcases reloadTicks_cases c st with h | h <;> rw [h]
  · rwa [toNat_timerValue hhdrFits]
  · rwa [toNat_timerValue hpayFits]

/-- A tick that is not the last one of an armed receive writes the timer at most (R72). -/
theorem exec_envTick_of_not_last {s : State} (h : s.rxBusy = true → 1 < s.rxTimer.toNat) :
    ∃ k, exec .envTick s = .next { s with rxTimer := k } := by
  rcases Bool.eq_false_or_eq_true s.rxBusy with hb | hb
  · exact ⟨_, exec_envTick_of_running hb (h hb)⟩
  · exact ⟨s.rxTimer, exec_envTick_of_idle hb⟩

/-- Settles O57: after the byte the timer is at least 2 or no receive is armed, and the tick leaves queue and result. -/
theorem byteComesBeforeTheExpiringTick : Obligations.ByteComesBeforeTheExpiringTick := by
  intro s t b q hwf hhdr hpay hb hresult _ hq h
  obtain ⟨m, hbyte, hticks⟩ := (chain_eq_next _ _ t).1 h
  obtain ⟨t', htick, hdone⟩ := (chain_eq_next _ _ t).1 hticks
  obtain rfl : t' = t := Host.Outcome.next.inj hdone
  obtain ⟨m', hrow, heffect⟩ := exec_decodeWire_of_armed (s := { s with rxQueue := q }) hb b
  obtain rfl : m' = m := Host.Outcome.next.inj (hrow.symm.trans ((rxEngineStep_of_enabled hb hq).symm.trans hbyte))
  have hnotLast : m'.rxBusy = true → 1 < m'.rxTimer.toNat := fun hbusy => by
    cases heffect with
    | restarted _ _ htimer => exact htimer ▸ one_lt_timerValue_reloadTicks hwf hhdr hpay _
    | ended _ hended => exact absurd (hbusy.symm.trans hended) nofun
  obtain ⟨k, hcounted⟩ := exec_envTick_of_not_last hnotLast
  obtain rfl := Host.Outcome.next.inj (hcounted.symm.trans htick)
  cases heffect with
  | restarted hqueue hkept => exact ⟨hqueue, fun htimeout => absurd (hresult.symm.trans (hkept.symm.trans htimeout)) nofun⟩
  | ended hqueue _ hposted => exact ⟨hqueue, hposted⟩

end Sys2Proof.Machine
end

section
/-! The instances of a platform share nothing (R105). -/
namespace Sys2Proof.Machine

/-- One step of a platform: that of the instance, put back in its place, or none where there is no such instance. -/
theorem Platform.stepAt_eq_next {p q : Platform} {i : Nat} : p.stepAt i = .next q ↔
    (p.endpoints[i]? = none ∧ q = p) ∨
    ∃ s t, p.endpoints[i]? = some s ∧ step s = .next t ∧ q = { p with endpoints := p.endpoints.set i t } := by
  unfold Platform.stepAt
  cases hi : p.endpoints[i]? with
  | none => simp [eq_comm]
  | some s => cases hs : step s <;> simp [hs, eq_comm]

/-- Settles O60: the step reads the instance's own state alone and writes no other place of the list. -/
theorem instancesAreIsolated : Obligations.InstancesAreIsolated := by
  intro p q i h
  rcases Platform.stepAt_eq_next.1 h with ⟨hnone, rfl⟩ | ⟨s, t, hsome, hstep, rfl⟩
  · exact ⟨rfl, fun _ _ => rfl, fun p' hsame => ⟨p', Platform.stepAt_eq_next.2 (.inl ⟨hsame.trans hnone, rfl⟩), hsame⟩⟩
  · refine ⟨rfl, fun j hj => List.getElem?_set_ne hj.symm, fun p' hsame => ?_⟩
    refine ⟨_, Platform.stepAt_eq_next.2 (.inr ⟨s, t, hsame.trans hsome, hstep, rfl⟩), ?_⟩
    simp only [List.getElem?_set_self', hsame]

end Sys2Proof.Machine
end

section
/-! Reset: what a block reset answers (R108) and what the registers read after it (R109). -/
namespace Sys2Proof.Machine

/-- The step takes the stimulus; the block's elements are then at their reset values. -/
theorem step_blockReset {s : State} {rest : List Stimulus} (hp : s.pending = .blockReset :: rest) :
    step s = .next { s with pending := rest }.blockReset :=
  step_of_pending hp

/-- Settles O58: the reset state of R108, with the fields that a block reset keeps. -/
theorem blockResetRestoresEveryElement : Obligations.BlockResetRestoresEveryElement :=
  fun _ _ hp => step_blockReset hp

/-! ## The register words at reset (R109) -/

/-- Every flag is clear and every code field holds the value that R41 to R44 code as 0. -/
theorem State.statusWord_resetWith (c : Config) : (State.resetWith c).statusWord = 0x00000000 := by
  simp [State.statusWord, State.resetWith, flagWord, Health.code, RxResult.code, RxState.code, CmdCause.code]

theorem State.rxInfoWord_resetWith (c : Config) : (State.resetWith c).rxInfoWord = 0x00000000 :=
  or_shiftLeft_eq_append 0 0

theorem State.rxCrcWord_resetWith (c : Config) : (State.resetWith c).rxCrcWord = 0x00000000 := by
  simp [State.rxCrcWord_eq_append, State.resetWith]

theorem State.rxCountWord_resetWith (c : Config) : (State.resetWith c).rxCountWord = 0x00000000 := rfl

theorem State.txCfgWord_resetWith (c : Config) : (State.resetWith c).txCfgWord = 0x00000000 :=
  or_shiftLeft_eq_append 0 0

theorem State.crcValueWord_resetWith (c : Config) :
    (State.resetWith c).crcValueWord = (crcFinal c.crc c.crc.init).setWidth 32 := rfl

/-- The default profile shows its `CRC_INIT` as it is. -/
theorem State.crcValueWord_reset : State.reset.crcValueWord = 0x0000FFFF :=
  calc State.reset.crcValueWord
    _ = (crcFinal CrcProfile.ccittFalse CrcProfile.ccittFalse.init).setWidth 32 := State.crcValueWord_resetWith Config.default
    _ = CrcProfile.ccittFalse.init.setWidth 32 := by rw [crcFinal_ccittFalse]
    _ = 0x0000FFFF := rfl

/-- Settles O59: each register read answers its word at reset; a buffer read answers its byte, whichever was drawn (R90). -/
theorem registersAfterReset : Obligations.RegistersAfterReset := fun c =>
  ⟨next_hostReads_of_eq (State.statusWord_resetWith c),
    next_hostReads_of_eq (State.rxInfoWord_resetWith c),
    next_hostReads_of_eq (State.rxCrcWord_resetWith c),
    next_hostReads_of_eq (State.rxCountWord_resetWith c),
    next_hostReads_of_eq (State.txCfgWord_resetWith c),
    next_hostReads_of_eq (State.crcValueWord_resetWith c),
    next_hostReads_of_eq State.crcValueWord_reset,
    fun i => ⟨_, (bufferReadsReturnTheirBytes (State.resetWith c) i).1⟩,
    fun i => ⟨_, (bufferReadsReturnTheirBytes (State.resetWith c) i).2.2.1⟩⟩

end Sys2Proof.Machine
end
